-- ==== Sys2Proof/Word.lean ====
section
/-! DEFINITION. The widths of the controller: every register is a byte (spec/20_memory.md R74), the transfer
counter has 16 bits (spec/10_state.md R22), there are ten register offsets (R21) and eight target ids (R49). -/

namespace Sys2Proof

/-- A byte: 8 bits (spec/00_scope.md R12). -/
abbrev Byte := BitVec 8

/-- A register offset, 0x0 to 0x9: the ten-element type of decision D46 (spec/20_memory.md R72). -/
abbrev Offset := Fin 10

/-- A target id, 0 to 7 (spec/10_state.md R49). -/
abbrev TargetId := Fin 8

end Sys2Proof
end

