-- ==== Sys2Proof/Config.lean ====
section
/-! DEFINITION. The constants and parameters of spec/00_scope.md R10, and the free values: opaque constants
for what no rule fixes. -/

namespace Sys2Proof

/-- `FIFO_CAP`: "capacity 16" (spec/00_scope.md R10). -/
def fifoCap : Nat := 16

/-- `CMDQ_DEPTH`: the two slots of the command register (spec/00_scope.md R10). -/
def cmdqDepth : Nat := 2

/-- The two time units `SEL_UNIT` and `CC_UNIT` with the constraint `0 < CC_UNIT < SEL_UNIT`, which
spec/00_scope.md R10 makes part of the parameter's type: a pair that breaks it is no value of this type. -/
structure DelayUnits where
  selUnit : Nat
  ccUnit : Nat
  ccUnit_pos : 0 < ccUnit
  ccUnit_lt : ccUnit < selUnit
deriving DecidableEq, Repr

/-- The defaults of spec/00_scope.md R10: `SEL_UNIT = 8192`, `CC_UNIT = 16`. -/
def DelayUnits.standard : DelayUnits := ⟨8192, 16, by decide, by decide⟩

/-- A choice of the two parameters, refused when it breaks the constraint (spec/00_scope.md R10: "a model must
refuse a parameter choice that breaks it"). -/
def DelayUnits.choose (sel cc : Nat) : Option DelayUnits :=
  if h : 0 < cc ∧ cc < sel then some ⟨sel, cc, h.1, h.2⟩ else none

/-- A device handle: the name of the oracle behind a slot. "The controller knows nothing of what is behind it"
(spec/10_state.md R50), so the name carries nothing else. -/
abbrev Handle := Nat

namespace Config

/-- The length a device's `execute` returns where State holds no answer: "any natural number"
(spec/10_state.md R50). FREE VALUE, DESIGN CHOICE (log entry 6). Safe. -/
opaque freeLength : Nat → Nat

/-- The byte a device's `read_data` returns where State holds no answer: "any byte" (spec/10_state.md R50).
FREE VALUE, DESIGN CHOICE (log entry 6). Safe. -/
opaque freeByte : Nat → BitVec 8

/-- What a rule that reads slot 0 finds in an EMPTY command register. No reachable state asks
(spec/10_state.md R53). FREE VALUE, DESIGN CHOICE (log entry 8). Safe. -/
opaque freeCommand : Nat → BitVec 8

end Config

end Sys2Proof
end

