-- ==== Sys2Proof/Syntax.lean ====
section
/-! DEFINITION. The operations of the controller, one constructor per row of spec/opcode_table.json
(spec/30_encoding.md R100, R116), the raw form in which an operation reaches it, and why a raw form may be none. -/

namespace Sys2Proof

/-- One operation of the controller: the 20 bus operations of R111, the 14 commands of R104 and `ILLEGAL`, the
5 events of R113 (spec/30_encoding.md). In a command, `x` is bit 7 of the byte, which the decoder ignores and the
command register keeps (R102). -/
inductive Instr where
  -- format BUS, reads
  | rdTcl | rdTch | rdFifo | rdCmd | rdStat | rdIntstat | rdSeq | rdFflags | rdConfig | rdCcf
  -- format BUS, writes
  | wrTcl (v : Byte) | wrTch (v : Byte) | wrFifo (v : Byte) | wrCmd (v : Byte) | wrBusid (v : Byte)
  | wrTimeout (v : Byte) | wrSyncp (v : Byte) | wrSynco (v : Byte) | wrConfig (v : Byte) | wrCcf (v : Byte)
  -- format CMD, group 0
  | reset (x : Bool) | flush (x : Bool) | devReset (x : Bool) | busReset (x : Bool)
  -- format CMD, group 1
  | select (x : Bool) | selXfer (x : Bool) | selAtn (x : Bool) | selAtnXfer (x : Bool)
  -- format CMD, group 2
  | tSendData (x : Bool) | tSendStat (x : Bool) | tReselect (x : Bool) | tDisconnect (x : Bool)
  -- format CMD, group 3
  | xfer (x : Bool) | release (x : Bool)
  -- format CMD, every other byte
  | illegal (v : Byte)
  -- format EVT
  | adv (n : Nat) | hreset | parity (b : Bool) | fireSel | fireCc
deriving DecidableEq, Repr

/-- A raw stimulus, before decoding. `stim w n`: the 16-bit stimulus word `w` of spec/30_encoding.md R101 and the
natural number carried beside it, which only `ADV` takes. `cmd v`: a command byte of format CMD, the
pseudo-stimulus `CMD v` of R114 (DEDUCED, log entry 15). -/
inductive Stimulus where
  | stim (w : BitVec 16) (n : Nat)
  | cmd (v : Byte)
deriving DecidableEq, Repr

/-- Why a raw stimulus is no operation of the controller. -/
inductive DecodeError where
  /-- The kind field is none of 0x0, 0x1, 0x8, 0x9, 0xA: "all other kinds are not stimuli" (R101). -/
  | notAStimulus (kind : BitVec 4)
  /-- A read or write of an offset above 0x9 (spec/20_memory.md R72). -/
  | offsetOutOfRange (off : BitVec 4)
  /-- A parity force whose operand is neither 0 nor 1 (R101). -/
  | parityOperand (w : BitVec 16)
deriving DecidableEq, Repr

end Sys2Proof
end

