-- ==== Sys2Proof/WellFormed.lean ====
section
/-! DEFINITION. Which terms of Instr stand for a stimulus from outside: the byte of `ILLEGAL` is no legal opcode,
and the two firings are not stimuli. -/

namespace Sys2Proof

/-- The fourteen legal values of `c = v & 0x7F`: the opcode map of spec/30_encoding.md R104. -/
def legalOpcodes : List Byte :=
  [0x00, 0x01, 0x02, 0x03, 0x10, 0x11, 0x12, 0x13, 0x20, 0x21, 0x22, 0x23, 0x30, 0x31]

/-- `c = v & 0x7F` is in the opcode map (spec/30_encoding.md R104). -/
def hasOpcode (v : Byte) : Bool := legalOpcodes.contains (v &&& 0x7F#8)

/-- A term stands for a stimulus. `ILLEGAL` is the row of "every other command byte" (spec/30_encoding.md R116);
a legal opcode in the wrong mode keeps its own constructor, whose meaning takes the Illegal Command. The two
firings are "not a stimulus of its own" (R113). -/
def Instr.wellFormed : Instr → Bool
  | .illegal v => !hasOpcode v
  | .fireSel | .fireCc => false
  | .rdTcl | .rdTch | .rdFifo | .rdCmd | .rdStat | .rdIntstat | .rdSeq | .rdFflags | .rdConfig | .rdCcf => true
  | .wrTcl _ | .wrTch _ | .wrFifo _ | .wrCmd _ | .wrBusid _ => true
  | .wrTimeout _ | .wrSyncp _ | .wrSynco _ | .wrConfig _ | .wrCcf _ => true
  | .reset _ | .flush _ | .devReset _ | .busReset _ => true
  | .select _ | .selXfer _ | .selAtn _ | .selAtnXfer _ => true
  | .tSendData _ | .tSendStat _ | .tReselect _ | .tDisconnect _ => true
  | .xfer _ | .release _ => true
  | .adv _ | .hreset | .parity _ => true

end Sys2Proof
end

