-- ==== Sys2Proof/Decode.lean ====
section
/-! DEFINITION. The decoder of stimulus words (spec/30_encoding.md R101, R111, R113) and of command bytes (R102,
R104), total on any bits and rejecting by name, and the encoder. The bits a row's mask leaves out are ignored
(DESIGN CHOICE, log entry 13). -/

namespace Sys2Proof

/-- `kind[15:12]` of a stimulus word (spec/30_encoding.md R101). -/
def kindField (w : BitVec 16) : BitVec 4 := w.extractLsb' 12 4

/-- `off[11:8]` of a stimulus word (spec/30_encoding.md R101). -/
def offField (w : BitVec 16) : BitVec 4 := w.extractLsb' 8 4

/-- `data[7:0]` of a stimulus word (spec/30_encoding.md R101). -/
def dataField (w : BitVec 16) : Byte := w.extractLsb' 0 8

/-- A stimulus word from its three fields: `kind[15:12] ++ off[11:8] ++ data[7:0]` (spec/30_encoding.md R101). -/
def stimWord (kind off : BitVec 4) (data : Byte) : BitVec 16 := kind ++ off ++ data

/-- The ten read rows of spec/30_encoding.md R111, by offset. -/
def decodeRead (off : BitVec 4) : Except DecodeError Instr :=
  match off.toNat with
  | 0 => .ok .rdTcl | 1 => .ok .rdTch | 2 => .ok .rdFifo | 3 => .ok .rdCmd | 4 => .ok .rdStat
  | 5 => .ok .rdIntstat | 6 => .ok .rdSeq | 7 => .ok .rdFflags | 8 => .ok .rdConfig | 9 => .ok .rdCcf
  | _ => .error (.offsetOutOfRange off)

/-- The ten write rows of spec/30_encoding.md R111, by offset. -/
def decodeWrite (off : BitVec 4) (v : Byte) : Except DecodeError Instr :=
  match off.toNat with
  | 0 => .ok (.wrTcl v) | 1 => .ok (.wrTch v) | 2 => .ok (.wrFifo v) | 3 => .ok (.wrCmd v) | 4 => .ok (.wrBusid v)
  | 5 => .ok (.wrTimeout v) | 6 => .ok (.wrSyncp v) | 7 => .ok (.wrSynco v) | 8 => .ok (.wrConfig v)
  | 9 => .ok (.wrCcf v)
  | _ => .error (.offsetOutOfRange off)

/-- `PARITY b`, the word `0xA000 | b` with `b` in 0, 1 (spec/30_encoding.md R101, R113). -/
def decodeParity (w : BitVec 16) : Except DecodeError Instr :=
  if w = 0xA000#16 then .ok (.parity false)
  else if w = 0xA001#16 then .ok (.parity true)
  else .error (.parityOperand w)

/-- A stimulus word with the number beside it (spec/30_encoding.md R101). -/
def decodeStim (w : BitVec 16) (n : Nat) : Except DecodeError Instr :=
  match (kindField w).toNat with
  | 0x0 => decodeRead (offField w)
  | 0x1 => decodeWrite (offField w) (dataField w)
  | 0x8 => .ok (.adv n)
  | 0x9 => .ok .hreset
  | 0xA => decodeParity w
  | _ => .error (.notAStimulus (kindField w))

/-- A command byte: the opcode map of spec/30_encoding.md R104 on `c = v & 0x7F`, every other byte the row
`ILLEGAL` (R116). -/
def decodeCommand (v : Byte) : Instr :=
  match (v &&& 0x7F#8).toNat with
  | 0x00 => .reset v.msb | 0x01 => .flush v.msb | 0x02 => .devReset v.msb | 0x03 => .busReset v.msb
  | 0x10 => .select v.msb | 0x11 => .selXfer v.msb | 0x12 => .selAtn v.msb | 0x13 => .selAtnXfer v.msb
  | 0x20 => .tSendData v.msb | 0x21 => .tSendStat v.msb | 0x22 => .tReselect v.msb | 0x23 => .tDisconnect v.msb
  | 0x30 => .xfer v.msb | 0x31 => .release v.msb
  | _ => .illegal v

/-- The decoder: a raw stimulus is an operation, or is refused by name. -/
def decode : Stimulus → Except DecodeError Instr
  | .stim w n => decodeStim w n
  | .cmd v => .ok (decodeCommand v)

/-- A command byte from its opcode and bit 7 (spec/30_encoding.md R102). -/
def commandByte (c : Byte) (x : Bool) : Byte := if x then c ||| 0x80#8 else c

/-- The encoder, from the tables of spec/30_encoding.md R101, R111, R104 and R113: unused fields are 0 (R101). The
two firings have "no bit pattern of their own" (R113) and are written with `ADV`'s word, which decodes to `ADV`. -/
def encode : Instr → Stimulus
  | .rdTcl => .stim (stimWord 0x0 0x0 0x00) 0
  | .rdTch => .stim (stimWord 0x0 0x1 0x00) 0
  | .rdFifo => .stim (stimWord 0x0 0x2 0x00) 0
  | .rdCmd => .stim (stimWord 0x0 0x3 0x00) 0
  | .rdStat => .stim (stimWord 0x0 0x4 0x00) 0
  | .rdIntstat => .stim (stimWord 0x0 0x5 0x00) 0
  | .rdSeq => .stim (stimWord 0x0 0x6 0x00) 0
  | .rdFflags => .stim (stimWord 0x0 0x7 0x00) 0
  | .rdConfig => .stim (stimWord 0x0 0x8 0x00) 0
  | .rdCcf => .stim (stimWord 0x0 0x9 0x00) 0
  | .wrTcl v => .stim (stimWord 0x1 0x0 v) 0
  | .wrTch v => .stim (stimWord 0x1 0x1 v) 0
  | .wrFifo v => .stim (stimWord 0x1 0x2 v) 0
  | .wrCmd v => .stim (stimWord 0x1 0x3 v) 0
  | .wrBusid v => .stim (stimWord 0x1 0x4 v) 0
  | .wrTimeout v => .stim (stimWord 0x1 0x5 v) 0
  | .wrSyncp v => .stim (stimWord 0x1 0x6 v) 0
  | .wrSynco v => .stim (stimWord 0x1 0x7 v) 0
  | .wrConfig v => .stim (stimWord 0x1 0x8 v) 0
  | .wrCcf v => .stim (stimWord 0x1 0x9 v) 0
  | .reset x => .cmd (commandByte 0x00 x)
  | .flush x => .cmd (commandByte 0x01 x)
  | .devReset x => .cmd (commandByte 0x02 x)
  | .busReset x => .cmd (commandByte 0x03 x)
  | .select x => .cmd (commandByte 0x10 x)
  | .selXfer x => .cmd (commandByte 0x11 x)
  | .selAtn x => .cmd (commandByte 0x12 x)
  | .selAtnXfer x => .cmd (commandByte 0x13 x)
  | .tSendData x => .cmd (commandByte 0x20 x)
  | .tSendStat x => .cmd (commandByte 0x21 x)
  | .tReselect x => .cmd (commandByte 0x22 x)
  | .tDisconnect x => .cmd (commandByte 0x23 x)
  | .xfer x => .cmd (commandByte 0x30 x)
  | .release x => .cmd (commandByte 0x31 x)
  | .illegal v => .cmd v
  | .adv n => .stim (stimWord 0x8 0x0 0x00) n
  | .hreset => .stim (stimWord 0x9 0x0 0x00) 0
  | .parity b => .stim (stimWord 0xA 0x0 (if b then 0x01 else 0x00)) 0
  | .fireSel => .stim (stimWord 0x8 0x0 0x00) 0
  | .fireCc => .stim (stimWord 0x8 0x0 0x00) 0

/-- The raw stimulus whose bits are `w`, bit 0 the least significant: a row of at most 8 bits is a command byte, a
wider one a stimulus word in its low 16 bits with the number beside it in the bits above (log entry 14). -/
def stimulusOfBits (nbits w : Nat) : Stimulus :=
  if nbits ≤ 8 then .cmd (BitVec.ofNat 8 w) else .stim (BitVec.ofNat 16 w) (w / 65536)

/-- The instruction the decoder reads from the bits `w` of a row of spec/opcode_table.json that is `nbits` wide. -/
def decodeTableWord (nbits w : Nat) : Option Instr :=
  match decode (stimulusOfBits nbits w) with
  | .ok i => some i
  | .error _ => none

end Sys2Proof
end

