-- ==== Sys2Proof/Machine/State.lean ====
section
/-! DEFINITION. The state of one controller: the record S of spec/10_state.md R20, field for field, and the model's
own fields for what R54 and R55 call parameters, inputs and outputs. Plain data. -/

namespace Sys2Proof.Machine

/-- The bus mode (spec/10_state.md R43). -/
inductive Mode where
  | disconnected | target | initiator
deriving DecidableEq, Repr

/-- The bus phase (spec/10_state.md R44). -/
inductive Phase where
  | free | selection | command | data | status | message
deriving DecidableEq, Repr

/-- What the command in slot 0 is doing (spec/10_state.md R41). -/
inductive CState where
  | idle | deferred | executing | completed
deriving DecidableEq, Repr

/-- The kind of a pending completion: `SEL` or `CC` (spec/10_state.md R46). -/
inductive CompletionKind where
  | sel | cc
deriving DecidableEq, Repr

/-- The timer context: a completion and its absolute deadline in bus clock cycles (spec/10_state.md R46). -/
structure Pending where
  kind : CompletionKind
  deadline : Nat
deriving DecidableEq, Repr

/-- The two output lines (spec/10_state.md R32). -/
inductive Line where
  | irq | drq
deriving DecidableEq, Repr

/-- An edge event: a line, its new level, and the virtual time at which it was emitted (spec/10_state.md R55). -/
structure Edge where
  line : Line
  level : Bool
  time : Nat
deriving DecidableEq, Repr

/-- A byte returned by a register read (spec/10_state.md R55). -/
structure ReadOut where
  off : Offset
  value : Byte
deriving DecidableEq, Repr

/-- A call on a device handle, with its target id and arguments: the capability set of spec/10_state.md R50. No
rule makes the call `identify` (decision D34). -/
inductive DeviceCall where
  | execute (target : TargetId) (cdb : List Byte)
  | readData (target : TargetId)
  | writeData (target : TargetId) (v : Byte)
  | identify (target : TargetId)
deriving DecidableEq, Repr

/-- Why a step stops with a fault. There is no constructor: "No condition is ever fatal"
(spec/60_exceptions.md R340), every condition of R305 is a bit that a next state shows (DEDUCED, log entry 21). -/
inductive Fault where
deriving DecidableEq, Repr

/-- Why the model gives an input no step. -/
inductive Refusal where
  /-- Raised by an arm of `exec` for an instruction without a meaning; no arm does. Safe. -/
  | notModelled (mnemonic : String)
  /-- Raised by `step` on a raw stimulus that is no operation of the controller: the kinds that spec/30_encoding.md
  R101 calls no stimuli, offsets above 0x9 (spec/20_memory.md R72), a parity operand other than 0 or 1. Safe. -/
  | notAnOperation (why : DecodeError)
  /-- Raised by the primitives `memRead` and `memWrite` on an offset above 0x9 (spec/20_memory.md R72). Safe. -/
  | offsetOutOfRange (addr : Nat)
  /-- Raised by the primitives `memRead` and `memWrite` on an access of more or less than one byte: "The spec
  defines no wide access, and a model refuses one" (spec/20_memory.md R74). Safe. -/
  | notByteWide (width : Nat)
deriving DecidableEq, Repr

/-- The state. The first 22 fields are the record S of spec/10_state.md R20, under its names; the others are the
model's own (log entries 1, 3 to 7). -/
structure State where
  /-- Transfer counter, host bookkeeping (R22). -/
  tc : BitVec 16
  /-- `bus_id`, destination target id register (R23). -/
  busId : Byte
  /-- Select-timeout value register (R24). -/
  timeout : Byte
  /-- `sync_period` (R25). -/
  syncPeriod : Byte
  /-- `sync_offset` (R25). -/
  syncOffset : Byte
  /-- Configuration register (R26). -/
  config : Byte
  /-- Clock-conversion factor register (R26). -/
  ccf : Byte
  /-- Gross Error flag (R29). -/
  ge : Bool
  /-- Parity flag (R30). -/
  pe : Bool
  /-- Interrupt-status bits, `RS DC IC CC ST` in bits 4 to 0 (R31). -/
  int : BitVec 5
  /-- Level of the IRQ output line (R32). -/
  irq : Bool
  /-- Level of the DRQ output line (R32). -/
  drq : Bool
  /-- The command register, slot 0 first (R40). -/
  cmdq : List Byte
  /-- What slot 0 is doing (R41). -/
  cstate : CState
  /-- The FIFO, oldest byte first (R42). -/
  fifo : List Byte
  /-- Bus mode (R43). -/
  mode : Mode
  /-- Bus phase (R44). -/
  phase : Phase
  /-- `cmd_phase`, the sequence step (R45). -/
  cmdPhase : Byte
  /-- The timer context (R46). -/
  pending : Option Pending
  /-- `sel_target`, the target last selected (R48). -/
  selTarget : TargetId
  /-- `xfer_active`, the data pass-through is on (R48). -/
  xferActive : Bool
  /-- `xfer_remaining`, bytes the device still expects to move (R48). -/
  xferRemaining : Nat
  /-- Virtual time in bus clock cycles (R47). MODEL's field for an input. -/
  now : Nat
  /-- The target device table (R49). MODEL's field for a parameter: no operation changes it. -/
  dev : Vector (Option Handle) 8
  /-- `SEL_UNIT` and `CC_UNIT` (spec/00_scope.md R10). MODEL's field for a parameter: no operation changes it. -/
  units : DelayUnits
  /-- The stimuli not yet performed, the next one first (spec/30_encoding.md R101). MODEL's field for an input. -/
  inbox : List Stimulus
  /-- The answers of the `execute` calls still to come, in call order (R50). MODEL's field for an input. -/
  lenIn : List Nat
  /-- The answers of the `read_data` calls still to come, in call order (R50). MODEL's field for an input. -/
  byteIn : List Byte
  /-- The MODEL's own counter: which free value comes next (log entry 6). -/
  freeCount : Nat
  /-- The bytes returned by register reads, oldest first (R55 (a)). MODEL's field for an output. -/
  reads : List ReadOut
  /-- The edge events, oldest first (R55 (b)). MODEL's field for an output. -/
  edges : List Edge
  /-- The calls made on device handles, oldest first (R55 (c)). MODEL's field for an output. -/
  calls : List DeviceCall
deriving DecidableEq, Repr

/-- The machine right after reset: the full-reset state of spec/10_state.md R56, with `irq = drq = 0` and an empty
output trace (spec/70_reset_and_hazards.md R350). The model's own fields: time 0 (DESIGN CHOICE, log entry 4), every
device slot empty (DESIGN CHOICE, log entry 5), the default units (log entry 7), nothing waiting (log entry 1). -/
def State.reset : State where
  tc := 0x0000#16
  busId := 0x00#8
  timeout := 0x00#8
  syncPeriod := 0x00#8
  syncOffset := 0x00#8
  config := 0x00#8
  ccf := 0x00#8
  ge := false
  pe := false
  int := 0b00000#5
  irq := false
  drq := false
  cmdq := []
  cstate := .idle
  fifo := []
  mode := .disconnected
  phase := .free
  cmdPhase := 0x00#8
  pending := none
  selTarget := 0
  xferActive := false
  xferRemaining := 0
  now := 0
  dev := .replicate 8 none
  units := .standard
  inbox := []
  lenIn := []
  byteIn := []
  freeCount := 0
  reads := []
  edges := []
  calls := []

end Sys2Proof.Machine
end

