-- ==== Sys2Proof/Machine/Flags.lean ====
section
/-! DEFINITION. The codes and bits a host reads: the five interrupt causes, the mode and phase codes, and the bytes
of the four synthesized read-only registers. -/

namespace Sys2Proof.Machine

/-- The five interrupt causes (spec/60_exceptions.md R305). -/
inductive Cause where
  /-- Select-Timeout `ST` (R312). -/
  | selectTimeout
  /-- Command-Complete `CC` (R313). -/
  | commandComplete
  /-- Illegal-Command `IC` (R314). -/
  | illegalCommand
  /-- Disconnect `DC` (R315). -/
  | disconnect
  /-- Reset `RS` (R316). -/
  | reset
deriving DecidableEq, Repr

/-- The bit of a cause in `int`: bit 0 `ST`, 1 `CC`, 2 `IC`, 3 `DC`, 4 `RS` (spec/10_state.md R31). -/
def causeBit : Cause → BitVec 5
  | .selectTimeout => 0b00001#5
  | .commandComplete => 0b00010#5
  | .illegalCommand => 0b00100#5
  | .disconnect => 0b01000#5
  | .reset => 0b10000#5

/-- `MODE`, bits 4:3 of the status register: 0 `D`, 1 `T`, 2 `I` (spec/10_state.md R33). -/
def modeCode : Mode → BitVec 2
  | .disconnected => 0#2
  | .target => 1#2
  | .initiator => 2#2

/-- `PHASE`, bits 2:0 of the status register (spec/10_state.md R33). -/
def phaseCode : Phase → BitVec 3
  | .free => 0#3
  | .selection => 1#3
  | .command => 2#3
  | .data => 3#3
  | .status => 4#3
  | .message => 5#3

/-- The status register, put together at the read: `irq ++ ge ++ pe ++ m[1:0] ++ p[2:0]`
(spec/40_register_file.md R138, spec/10_state.md R33). -/
def statusByte (s : State) : Byte :=
  BitVec.ofBool s.irq ++ BitVec.ofBool s.ge ++ BitVec.ofBool s.pe ++ modeCode s.mode ++ phaseCode s.phase

/-- The interrupt-status register: `0b000 ++ int` (spec/10_state.md R34). -/
def intStatusByte (s : State) : Byte := 0b000#3 ++ s.int

/-- The FIFO-flags register: `zext_8(|fifo|)` (spec/40_register_file.md R144). -/
def fifoFlagsByte (s : State) : Byte := BitVec.ofNat 8 s.fifo.length

/-- The low half of the transfer counter, `tc[7:0]` (spec/40_register_file.md R132). -/
def tcLow (s : State) : Byte := s.tc.extractLsb' 0 8

/-- The high half of the transfer counter, `tc[15:8]` (spec/40_register_file.md R133). -/
def tcHigh (s : State) : Byte := s.tc.extractLsb' 8 8

end Sys2Proof.Machine
end

