-- ==== Sys2Proof/Machine/Operands.lean ====
section
/-! DEFINITION. The operand forms: the fields of a command byte, its validity and the FIFO bytes it needs, the
target id, the message byte and CDB, the command in slot 0, and the delays. -/

namespace Sys2Proof.Machine

/-- `c = v & 0x7F`: bit 7 is ignored by the decoder (spec/30_encoding.md R102). -/
def opcode (v : Byte) : Byte := v &&& 0x7F#8

/-- The group, `c[6:4]` (spec/30_encoding.md R102). -/
def group (c : Byte) : BitVec 3 := c.extractLsb' 4 3

/-- The subcommand, `c[3:0]` (spec/30_encoding.md R102). -/
def sub (c : Byte) : BitVec 4 := c.extractLsb' 0 4

/-- `valid(c, mode)` (spec/30_encoding.md R105). -/
def valid (c : Byte) (mode : Mode) : Bool :=
  if group c = 0#3 then sub c ≤ 3#4
  else if group c = 1#3 then mode = .disconnected && sub c ≤ 3#4
  else if group c = 2#3 then mode = .target && sub c ≤ 3#4
  else if group c = 3#3 then mode = .initiator && sub c ≤ 1#4
  else false

/-- `need(c)`: how many bytes must be in the FIFO before command `c` may start (spec/30_encoding.md R108). -/
def need (c : Byte) : Nat :=
  if c = 0x11#8 then 1
  else if c = 0x12#8 then 1
  else if c = 0x13#8 then 2
  else if c = 0x20#8 then 2
  else if c = 0x21#8 then 2
  else if c = 0x22#8 then 1
  else 0

/-- The three immediate commands `RESET`, `DEVRESET`, `BUSRESET` (spec/42_command_decoder.md R187). -/
def isImmediate (c : Byte) : Bool := c = 0x00#8 || c = 0x02#8 || c = 0x03#8

/-- The four selects, 0x10 to 0x13 (spec/30_encoding.md R104). -/
def isSelect (c : Byte) : Bool := c = 0x10#8 || c = 0x11#8 || c = 0x12#8 || c = 0x13#8

/-- The transfer flag of a select, `c[0]` (spec/44_disconnected_commands.md R231). -/
def xferFlag (c : Byte) : Bool := c.getLsbD 0

/-- The ATN flag of a select, `c[1]` (spec/44_disconnected_commands.md R231). -/
def atnFlag (c : Byte) : Bool := c.getLsbD 1

/-- The CDB of a select: every FIFO byte, less the message byte in front of it for an ATN variant
(spec/30_encoding.md R109). -/
def cdbOf (c : Byte) (fifo : List Byte) : List Byte := if atnFlag c then fifo.tail else fifo

/-- `bus_id[2:0]`, the id a select addresses (spec/10_state.md R23). -/
def targetOf (busId : Byte) : TargetId := (busId.extractLsb' 0 3).toFin

/-- `dev[i] != None`: the slot is populated (spec/10_state.md R49). -/
def populated (s : State) (i : TargetId) : Bool := (s.dev.get i).isSome

/-- The byte in slot 0, `cmdq[0]`. An empty command register has none: a free value (DESIGN CHOICE, log entry 8). -/
def slot0 (s : State) : Byte :=
  match s.cmdq with
  | v :: _ => v
  | [] => Config.freeCommand s.freeCount

/-- `ccf_eff`: the clock-conversion factor, 0 acting as 1 (spec/47_timer_events.md R288). -/
def ccfEff (c : Byte) : Nat := if c = 0#8 then 1 else c.toNat

/-- `SEL_DELAY(t, c)` (spec/47_timer_events.md R289). -/
def selDelay (u : DelayUnits) (t c : Byte) : Nat := u.selUnit * ccfEff c * (t.toNat + 1)

/-- `CC_DELAY(c)` (spec/47_timer_events.md R290). -/
def ccDelay (u : DelayUnits) (c : Byte) : Nat := u.ccUnit * ccfEff c

end Sys2Proof.Machine
end

