-- ==== Sys2Proof/Machine/Ops.lean ====
section
/-! DEFINITION. The named operations over the state: the lines and the outputs, taking an interrupt cause and
returning from one, the timer's two primitives, the FIFO's three, the calls on a device, and the two resets. Each is
one record update, so that its lemmas are true by rfl. -/

namespace Sys2Proof.Machine

/-- The edge events that bring the two lines to the levels of `int` and `xfer_active`: IRQ is examined first, and a
line whose level does not change emits nothing (spec/60_exceptions.md R311). -/
def lineEdges (s : State) : List Edge :=
  (if (s.int != 0#5) = s.irq then [] else [⟨.irq, s.int != 0#5, s.now⟩]) ++
  (if s.xferActive = s.drq then [] else [⟨.drq, s.xferActive, s.now⟩])

/-- `update_lines()` (spec/60_exceptions.md R311; the levels are R309 and R310). -/
def updateLines (s : State) : State :=
  { s with irq := s.int != 0#5, drq := s.xferActive, edges := s.edges ++ lineEdges s }

/-- The bit of a cause set, the lines not yet updated. -/
def setCause (x : Cause) (s : State) : State := { s with int := s.int ||| causeBit x }

/-- Taking a cause, the equivalent of trap entry: `raise X` sets the sticky bit and updates the lines; nothing is
saved and control goes nowhere (spec/60_exceptions.md R306, R322). -/
def raise (x : Cause) (s : State) : State := updateLines (setCause x s)

/-- The return from a cause, first half: all five bits and the IRQ line are cleared "in one atomic step"
(spec/60_exceptions.md R324, spec/40_register_file.md R139). The second half, `pop_and_chain`, is in the decoder. -/
def acknowledge (s : State) : State := updateLines { s with int := 0b00000#5 }

/-- The byte a register read returns goes to the output (spec/10_state.md R55 (a)). -/
def returnByte (off : Offset) (v : Byte) (s : State) : State := { s with reads := s.reads ++ [⟨off, v⟩] }

/-- `schedule(kind, d)`: one pending completion at `now + d`, replacing any other (spec/47_timer_events.md R286). -/
def schedule (k : CompletionKind) (d : Nat) (s : State) : State := { s with pending := some ⟨k, s.now + d⟩ }

/-- `cancel()` (spec/47_timer_events.md R287). -/
def cancel (s : State) : State := { s with pending := none }

/-- `fifo_push(v)`: a push on a full FIFO loses the byte (spec/41_fifo.md R171). -/
def fifoPush (v : Byte) (s : State) : State :=
  { s with fifo := if s.fifo.length < fifoCap then s.fifo ++ [v] else s.fifo }

/-- The byte `fifo_pop()` returns: the oldest, or 0x00 from an empty FIFO (spec/41_fifo.md R172). -/
def fifoFront (s : State) : Byte := s.fifo.headD 0x00#8

/-- What `fifo_pop()` leaves: the oldest byte is gone; an empty FIFO is unchanged (spec/41_fifo.md R172). -/
def fifoDrop (s : State) : State := { s with fifo := s.fifo.tail }

/-- `fifo_flush()` (spec/41_fifo.md R173). -/
def fifoFlush (s : State) : State := { s with fifo := [] }

/-- What the next call of `execute` returns: the next answer waiting in State, or a free value
(spec/10_state.md R50; log entry 6). -/
def nextLength (s : State) : Nat := s.lenIn.headD (Config.freeLength s.freeCount)

/-- What the next call of `read_data` returns: the next answer waiting in State, or a free value
(spec/10_state.md R50; log entry 6). -/
def nextByte (s : State) : Byte := s.byteIn.headD (Config.freeByte s.freeCount)

/-- `xfer_remaining <- dev[sel_target].execute(cdb)`: one call (spec/44_disconnected_commands.md R234). -/
def callExecute (cdb : List Byte) (s : State) : State :=
  { s with
    xferRemaining := nextLength s
    lenIn := s.lenIn.tail
    freeCount := s.freeCount + 1
    calls := s.calls ++ [.execute s.selTarget cdb] }

/-- `dev[sel_target].read_data()` and the count of `xfer_remaining`: one call, one byte (spec/41_fifo.md R176). The
count stays 0 at 0 (R181; DEDUCED, log entry 10). -/
def callReadData (s : State) : State :=
  { s with
    xferRemaining := s.xferRemaining - 1
    byteIn := s.byteIn.tail
    freeCount := s.freeCount + 1
    calls := s.calls ++ [.readData s.selTarget] }

/-- `dev[sel_target].write_data(v)` and the count of `xfer_remaining`: one call, one byte (spec/41_fifo.md R177). -/
def callWriteData (v : Byte) (s : State) : State :=
  { s with
    xferRemaining := s.xferRemaining - 1
    calls := s.calls ++ [.writeData s.selTarget v] }

/-- `soft_reset()`: the common part of the three reset commands; it does not update the lines
(spec/43_misc_commands.md R215). -/
def softReset (s : State) : State :=
  { s with
    mode := .disconnected
    cmdq := []
    cstate := .idle
    pending := none
    phase := .free
    cmdPhase := 0x00#8
    xferActive := false
    xferRemaining := 0
    ge := false }

/-- Every field of the record at its full-reset value, except `irq` and `drq`, which the caller's `update_lines`
brings down (spec/10_state.md R56, spec/70_reset_and_hazards.md R350). -/
def fullReset (s : State) : State :=
  { s with
    mode := .disconnected
    cmdq := []
    pending := none
    cstate := .idle
    phase := .free
    cmdPhase := 0x00#8
    fifo := []
    tc := 0x0000#16
    busId := 0x00#8
    timeout := 0x00#8
    syncPeriod := 0x00#8
    syncOffset := 0x00#8
    config := 0x00#8
    ccf := 0x00#8
    ge := false
    pe := false
    int := 0b00000#5
    selTarget := 0
    xferActive := false
    xferRemaining := 0 }

end Sys2Proof.Machine
end

