-- ==== Sys2Proof/Machine/TargetOps.lean ====
section
/-! DEFINITION. Group 2, the target commands (spec/45_target_commands.md). -/

namespace Sys2Proof.Machine

/-- `target_start(c, k)`: the `k` oldest FIFO bytes dropped, a Command-Complete scheduled (R256). -/
def targetStart (k : Nat) (s : State) : State :=
  { schedule .cc (ccDelay s.units s.ccf) s with fifo := s.fifo.drop k, cstate := .executing }

/-- `TSENDDATA` (R257). -/
def doTSendData (s : State) : State := targetStart 2 s

/-- `TSENDSTAT` (R258). -/
def doTSendStat (s : State) : State := targetStart 2 s

/-- `TRESELECT` (R259). -/
def doTReselect (s : State) : State := targetStart 1 s

/-- The end of a connection, common to `TDISCONNECT` and `RELEASE`: back to Disconnected with the Disconnect cause
(R260, spec/46_initiator_commands.md R273). -/
def endConnection (s : State) : State :=
  updateLines { setCause .disconnect s with
    mode := .disconnected
    phase := .free
    xferActive := false
    xferRemaining := 0
    cstate := .completed }

/-- `TDISCONNECT` (R260). -/
def doTDisconnect (s : State) : State := endConnection s

end Sys2Proof.Machine
end

