-- ==== Sys2Proof/Machine/InitiatorOps.lean ====
section
/-! DEFINITION. Group 3, the initiator commands (spec/46_initiator_commands.md). -/

namespace Sys2Proof.Machine

/-- `XFER`: in the data phase with bytes owed the pass-through is switched on and the command waits for the data;
otherwise a Command-Complete is scheduled (R272). -/
def doXfer (s : State) : State :=
  if s.phase = .data ∧ 0 < s.xferRemaining then updateLines { s with cstate := .executing, xferActive := true }
  else { schedule .cc (ccDelay s.units s.ccf) s with cstate := .executing }

/-- `RELEASE` (R273). -/
def doRelease (s : State) : State := endConnection s

end Sys2Proof.Machine
end

