-- ==== Sys2Proof/Machine/MiscOps.lean ====
section
/-! DEFINITION. Group 0, the miscellaneous commands: what each does once the decoder has reached it
(spec/43_misc_commands.md). -/

namespace Sys2Proof.Machine

/-- `RESET`: the soft reset of the command path (R216). -/
def doReset (s : State) : State := updateLines (softReset s)

/-- `DEVRESET`: the full reset of the device (R218). -/
def doDevReset (s : State) : State := updateLines (fullReset s)

/-- `BUSRESET`: the soft reset and the Reset cause (R219). -/
def doBusReset (s : State) : State := updateLines (setCause .reset (softReset s))

/-- `FLUSH`: the FIFO emptied, the command ended without an interrupt; `chain` is `pop_and_chain` (R217). -/
def doFlush (chain : State → State) (s : State) : State := chain { fifoFlush s with cstate := .completed }

end Sys2Proof.Machine
end

