-- ==== Sys2Proof/Machine/SelectOps.lean ====
section
/-! DEFINITION. Group 1, the selects, and the phase state machine: the common start and its two continuations
(spec/44_disconnected_commands.md R233 to R235). -/

namespace Sys2Proof.Machine

/-- A select against a populated slot: the message byte dropped, every other FIFO byte handed to `execute`, the
Select-Timeout cancelled and a Command-Complete scheduled (R234). -/
def selectPopulated (c : Byte) (s : State) : State :=
  schedule .cc (ccDelay s.units s.ccf)
    (cancel { callExecute (cdbOf c s.fifo) (fifoFlush s) with phase := .command })

/-- The start of a select, up to the look at the device table: the target latched, the Select-Timeout scheduled
(R233). -/
def selectLatch (s : State) : State :=
  { schedule .sel (selDelay s.units s.timeout s.ccf) s with
    selTarget := targetOf s.busId
    phase := .selection
    cmdPhase := 0x00#8
    cstate := .executing }

/-- `select_start(c)`: against an empty slot nothing more happens at the start (R233, R235). -/
def selectStart (c : Byte) (s : State) : State :=
  if populated s (targetOf s.busId) then selectPopulated c (selectLatch s) else selectLatch s

/-- `SELECT` (R236). -/
def doSelect (s : State) : State := selectStart 0x10#8 s

/-- `SELXFER` (R237). -/
def doSelXfer (s : State) : State := selectStart 0x11#8 s

/-- `SELATN` (R238). -/
def doSelAtn (s : State) : State := selectStart 0x12#8 s

/-- `SELATNXFER` (R239). -/
def doSelAtnXfer (s : State) : State := selectStart 0x13#8 s

end Sys2Proof.Machine
end

