-- ==== Sys2Proof/Machine/Decoder.lean ====
section
/-! DEFINITION. The command decoder and dispatcher (spec/42_command_decoder.md): submission, the overrun guard,
validation, deferral, execution, pop and chain. -/

namespace Sys2Proof.Machine

/-- Illegal Command: the cause raised, the byte left in slot 0, ended (R190). -/
def rejectIllegal (s : State) : State := { raise .illegalCommand s with cstate := .completed }

/-- Deferral: "nothing else changes, no interrupt, no timer" (R191). -/
def defer (s : State) : State := { s with cstate := .deferred }

/-- `execute_cmd(c)`: to the command's own rule (R192). Opcodes 0x00, 0x02, 0x03 "never reach" it; a state placed by
hand with one in the queue is left as it is (DESIGN CHOICE, log entry 9). -/
def executeCmd (chain : State → State) (c : Byte) (s : State) : State :=
  if c = 0x01#8 then doFlush chain s
  else if c = 0x10#8 then doSelect s
  else if c = 0x11#8 then doSelXfer s
  else if c = 0x12#8 then doSelAtn s
  else if c = 0x13#8 then doSelAtnXfer s
  else if c = 0x20#8 then doTSendData s
  else if c = 0x21#8 then doTSendStat s
  else if c = 0x22#8 then doTReselect s
  else if c = 0x23#8 then doTDisconnect s
  else if c = 0x30#8 then doXfer s
  else if c = 0x31#8 then doRelease s
  else s

/-- `pop_and_chain()` over a dispatcher: an ended command leaves slot 0, and the next one, if any, is dispatched
(R194; the guard is R195). -/
def popAndChainWith (disp : State → State) (s : State) : State :=
  if s.cmdq ≠ [] ∧ s.cstate = .completed then
    if s.cmdq.tail ≠ [] then disp { s with cmdq := s.cmdq.tail }
    else { s with cmdq := s.cmdq.tail, cstate := .idle }
  else s

/-- The body of `dispatch()` over a chainer: validation before the byte count, then execution (R189). -/
def dispatchWith (chain : State → State) (s : State) : State :=
  if valid (opcode (slot0 s)) s.mode then
    if s.fifo.length < need (opcode (slot0 s)) then defer s
    else executeCmd chain (opcode (slot0 s)) s
  else rejectIllegal s

/-- `dispatch()` with a bound on its depth: each dispatch inside a dispatch follows a pop (R194: "the recursion is at
most two deep because the queue holds at most two bytes"). -/
def dispatchN : Nat → State → State
  | 0, s => s
  | k + 1, s => dispatchWith (popAndChainWith (dispatchN k)) s

/-- `dispatch()` (R189). One more than the queue's length bounds its depth (`dispatch_eq` in the laws). -/
def dispatch (s : State) : State := dispatchN (s.cmdq.length + 1) s

/-- `pop_and_chain()` (R194). -/
def popAndChain (s : State) : State := popAndChainWith dispatch s

/-- A byte that is no immediate command goes into the command register: lost to the overrun guard when both slots
are full (R188), dispatched when it arrives in slot 0, waiting in slot 1 otherwise (R186). -/
def enqueue (v : Byte) (s : State) : State :=
  if cmdqDepth ≤ s.cmdq.length then { s with ge := true }
  else if s.cmdq = [] then dispatch { s with cmdq := [v] }
  else { s with cmdq := s.cmdq ++ [v] }

/-- `submit(v)`: the three immediate commands at once, every other byte into the queue (R186, R187). -/
def submit (v : Byte) (s : State) : State :=
  if opcode v = 0x00#8 then doReset s
  else if opcode v = 0x02#8 then doDevReset s
  else if opcode v = 0x03#8 then doBusReset s
  else enqueue v s

end Sys2Proof.Machine
end

