-- ==== Sys2Proof/Machine/DataPath.lean ====
section
/-! DEFINITION. The data pass-through of offset 0x2 to the selected device (spec/41_fifo.md R176 to R178). -/

namespace Sys2Proof.Machine

/-- An Initiator XFER is waiting for the data to run out (R178). -/
def xferWaiting (s : State) : Bool := s.cstate = .executing && opcode (slot0 s) = 0x30#8

/-- `data_done()`: the transfer ends, the phase becomes STATUS, and a waiting XFER ends with Command-Complete
(R178). -/
def dataDone (s : State) : State :=
  updateLines
    (if xferWaiting s then
      { setCause .commandComplete s with xferActive := false, phase := .status, cstate := .completed }
    else { s with xferActive := false, phase := .status })

/-- The last expected byte has moved: `if xfer_remaining = 0 then data_done()` (R176, R177). -/
def endIfDone (s : State) : State := if s.xferRemaining = 0 then dataDone s else s

/-- `data_read()`, less the byte it returns, which is `nextByte` (R176). -/
def dataRead (s : State) : State := endIfDone (callReadData s)

/-- `data_write(v)` (R177). -/
def dataWrite (v : Byte) (s : State) : State := endIfDone (callWriteData v s)

end Sys2Proof.Machine
end

