-- ==== Sys2Proof/Machine/FifoData.lean ====
section
/-! DEFINITION. The FIFO data register, offset 0x2: the FIFO while no transfer is active, the selected device while
one is (spec/41_fifo.md R175, R179, R180). -/

namespace Sys2Proof.Machine

open Host (Outcome)

/-- `RD.FIFO` (R179). -/
def execRdFifo (s : State) : Outcome State Fault Refusal :=
  .next (if s.xferActive then returnByte 0x2 (nextByte s) (dataRead s) else returnByte 0x2 (fifoFront s) (fifoDrop s))

/-- A push through offset 0x2: a deferred command is examined again, since the byte may be the one it waits for
(R180). -/
def pushByte (v : Byte) (s : State) : State :=
  if s.cstate = .deferred then dispatch (fifoPush v s) else fifoPush v s

/-- `WR.FIFO(v)` (R180). -/
def execWrFifo (v : Byte) (s : State) : Outcome State Fault Refusal :=
  .next (if s.xferActive then dataWrite v s else pushByte v s)

end Sys2Proof.Machine
end

