-- ==== Sys2Proof/Machine/RegisterFile.lean ====
section
/-! DEFINITION. The register file: every bus operation but the two on the FIFO data register
(spec/40_register_file.md). -/

namespace Sys2Proof.Machine

open Host (Outcome)

/-- `RD.TCL` (R132). -/
def execRdTcl (s : State) : Outcome State Fault Refusal := .next (returnByte 0x0 (tcLow s) s)

/-- `RD.TCH` (R133). -/
def execRdTch (s : State) : Outcome State Fault Refusal := .next (returnByte 0x1 (tcHigh s) s)

/-- `WR.TCL(v)`: `tc <- tc[15:8] ++ v` (R134). -/
def execWrTcl (v : Byte) (s : State) : Outcome State Fault Refusal := .next { s with tc := tcHigh s ++ v }

/-- `WR.TCH(v)`: `tc <- v ++ tc[7:0]` (R135). -/
def execWrTch (v : Byte) (s : State) : Outcome State Fault Refusal := .next { s with tc := v ++ tcLow s }

/-- `RD.CMD`: the command register is write-only, the read returns 0x00 (R136). -/
def execRdCmd (s : State) : Outcome State Fault Refusal := .next (returnByte 0x3 0x00#8 s)

/-- `WR.CMD(v)`: `submit(v)` (R137). -/
def execWrCmd (v : Byte) (s : State) : Outcome State Fault Refusal := .next (submit v s)

/-- `RD.STAT` (R138). -/
def execRdStat (s : State) : Outcome State Fault Refusal := .next (returnByte 0x4 (statusByte s) s)

/-- `WR.BUSID(v)` (R140). -/
def execWrBusid (v : Byte) (s : State) : Outcome State Fault Refusal := .next { s with busId := v }

/-- What an interrupt-status read does: all bits cleared and the line lowered, then, if a bit was set, the ended
command popped and the chained one dispatched (R139). -/
def readIntStatus (s : State) : State :=
  if intStatusByte s ≠ 0x00#8 then popAndChain (acknowledge s) else acknowledge s

/-- `RD.INTSTAT`: the byte returned is the one sampled before the clear (R139). -/
def execRdIntstat (s : State) : Outcome State Fault Refusal :=
  .next (returnByte 0x5 (intStatusByte s) (readIntStatus s))

/-- `WR.TIMEOUT(v)` (R141). -/
def execWrTimeout (v : Byte) (s : State) : Outcome State Fault Refusal := .next { s with timeout := v }

/-- `RD.SEQ` (R142). -/
def execRdSeq (s : State) : Outcome State Fault Refusal := .next (returnByte 0x6 s.cmdPhase s)

/-- `WR.SYNCP(v)` (R143). -/
def execWrSyncp (v : Byte) (s : State) : Outcome State Fault Refusal := .next { s with syncPeriod := v }

/-- `RD.FFLAGS` (R144). -/
def execRdFflags (s : State) : Outcome State Fault Refusal := .next (returnByte 0x7 (fifoFlagsByte s) s)

/-- `WR.SYNCO(v)` (R145). -/
def execWrSynco (v : Byte) (s : State) : Outcome State Fault Refusal := .next { s with syncOffset := v }

/-- `RD.CONFIG` (R146). -/
def execRdConfig (s : State) : Outcome State Fault Refusal := .next (returnByte 0x8 s.config s)

/-- `WR.CONFIG(v)` (R147). -/
def execWrConfig (v : Byte) (s : State) : Outcome State Fault Refusal := .next { s with config := v }

/-- `RD.CCF`: the clock-conversion register is write-only, the read returns 0x00 (R148). -/
def execRdCcf (s : State) : Outcome State Fault Refusal := .next (returnByte 0x9 0x00#8 s)

/-- `WR.CCF(v)` (R149). -/
def execWrCcf (v : Byte) (s : State) : Outcome State Fault Refusal := .next { s with ccf := v }

end Sys2Proof.Machine
end

