-- ==== Sys2Proof/Machine/Access.lean ====
section
/-! DEFINITION. The two primitives by which the host and the DMA engine reach the registers, `MemRead` and
`MemWrite` (spec/40_register_file.md R130, R131), and the read-side view `x[off]` (spec/00_scope.md R13). -/

namespace Sys2Proof.Machine

open Host (Outcome)

/-- `MemRead(addr, n)`: defined for one byte at an offset 0x0 to 0x9, refused otherwise
(spec/40_register_file.md R130, spec/20_memory.md R72, R74, R76). -/
def memRead (addr n : Nat) (s : State) : Outcome State Fault Refusal :=
  if n ≠ 1 then .refused (.notByteWide n)
  else match addr with
  | 0x0 => execRdTcl s
  | 0x1 => execRdTch s
  | 0x2 => execRdFifo s
  | 0x3 => execRdCmd s
  | 0x4 => execRdStat s
  | 0x5 => execRdIntstat s
  | 0x6 => execRdSeq s
  | 0x7 => execRdFflags s
  | 0x8 => execRdConfig s
  | 0x9 => execRdCcf s
  | _ => .refused (.offsetOutOfRange addr)

/-- `MemWrite(addr, n, v)`: defined for one byte at an offset 0x0 to 0x9, refused otherwise
(spec/40_register_file.md R131, spec/20_memory.md R72, R74, R76). -/
def memWrite (addr n : Nat) (v : Byte) (s : State) : Outcome State Fault Refusal :=
  if n ≠ 1 then .refused (.notByteWide n)
  else match addr with
  | 0x0 => execWrTcl v s
  | 0x1 => execWrTch v s
  | 0x2 => execWrFifo v s
  | 0x3 => execWrCmd v s
  | 0x4 => execWrBusid v s
  | 0x5 => execWrTimeout v s
  | 0x6 => execWrSyncp v s
  | 0x7 => execWrSynco v s
  | 0x8 => execWrConfig v s
  | 0x9 => execWrCcf v s
  | _ => .refused (.offsetOutOfRange addr)

/-- `x[off]`: the byte a host read of the offset would return, without its side effects (spec/00_scope.md R13). -/
def readView (off : Offset) (s : State) : Byte :=
  match off with
  | 0 => tcLow s
  | 1 => tcHigh s
  | 2 => if s.xferActive then nextByte s else fifoFront s
  | 3 => 0x00#8
  | 4 => statusByte s
  | 5 => intStatusByte s
  | 6 => s.cmdPhase
  | 7 => fifoFlagsByte s
  | 8 => s.config
  | 9 => 0x00#8

end Sys2Proof.Machine
end

