-- ==== Sys2Proof/Machine/Commands.lean ====
section
/-! DEFINITION. The command rows: a command is "one byte written to offset 0x3", reached by `submit`
(spec/30_encoding.md R100, R114); what each does from there is in MiscOps, SelectOps, TargetOps and InitiatorOps. -/

namespace Sys2Proof.Machine

open Host (Outcome)

/-- `RESET` 0x00 (spec/43_misc_commands.md R216). -/
def execReset (x : Bool) (s : State) : Outcome State Fault Refusal := .next (submit (commandByte 0x00#8 x) s)

/-- `FLUSH` 0x01 (spec/43_misc_commands.md R217). -/
def execFlush (x : Bool) (s : State) : Outcome State Fault Refusal := .next (submit (commandByte 0x01#8 x) s)

/-- `DEVRESET` 0x02 (spec/43_misc_commands.md R218). -/
def execDevReset (x : Bool) (s : State) : Outcome State Fault Refusal := .next (submit (commandByte 0x02#8 x) s)

/-- `BUSRESET` 0x03 (spec/43_misc_commands.md R219). -/
def execBusReset (x : Bool) (s : State) : Outcome State Fault Refusal := .next (submit (commandByte 0x03#8 x) s)

/-- `SELECT` 0x10 (spec/44_disconnected_commands.md R236). -/
def execSelect (x : Bool) (s : State) : Outcome State Fault Refusal := .next (submit (commandByte 0x10#8 x) s)

/-- `SELXFER` 0x11 (spec/44_disconnected_commands.md R237). -/
def execSelXfer (x : Bool) (s : State) : Outcome State Fault Refusal := .next (submit (commandByte 0x11#8 x) s)

/-- `SELATN` 0x12 (spec/44_disconnected_commands.md R238). -/
def execSelAtn (x : Bool) (s : State) : Outcome State Fault Refusal := .next (submit (commandByte 0x12#8 x) s)

/-- `SELATNXFER` 0x13 (spec/44_disconnected_commands.md R239). -/
def execSelAtnXfer (x : Bool) (s : State) : Outcome State Fault Refusal := .next (submit (commandByte 0x13#8 x) s)

/-- `TSENDDATA` 0x20 (spec/45_target_commands.md R257). -/
def execTSendData (x : Bool) (s : State) : Outcome State Fault Refusal := .next (submit (commandByte 0x20#8 x) s)

/-- `TSENDSTAT` 0x21 (spec/45_target_commands.md R258). -/
def execTSendStat (x : Bool) (s : State) : Outcome State Fault Refusal := .next (submit (commandByte 0x21#8 x) s)

/-- `TRESELECT` 0x22 (spec/45_target_commands.md R259). -/
def execTReselect (x : Bool) (s : State) : Outcome State Fault Refusal := .next (submit (commandByte 0x22#8 x) s)

/-- `TDISCONNECT` 0x23 (spec/45_target_commands.md R260). -/
def execTDisconnect (x : Bool) (s : State) : Outcome State Fault Refusal := .next (submit (commandByte 0x23#8 x) s)

/-- `XFER` 0x30 (spec/46_initiator_commands.md R272). -/
def execXfer (x : Bool) (s : State) : Outcome State Fault Refusal := .next (submit (commandByte 0x30#8 x) s)

/-- `RELEASE` 0x31 (spec/46_initiator_commands.md R273). -/
def execRelease (x : Bool) (s : State) : Outcome State Fault Refusal := .next (submit (commandByte 0x31#8 x) s)

/-- `ILLEGAL`: a command byte in no row of the opcode map (spec/30_encoding.md R106, R116); dispatch rejects it
(spec/42_command_decoder.md R190). -/
def execIllegal (v : Byte) (s : State) : Outcome State Fault Refusal := .next (submit v s)

end Sys2Proof.Machine
end

