-- ==== Sys2Proof/Machine/Timer.lean ====
section
/-! DEFINITION. The timer: firing, the two completion handlers, and the advance of virtual time
(spec/47_timer_events.md). -/

namespace Sys2Proof.Machine

/-- `on_select_timeout()` (R293). -/
def onSelectTimeout (s : State) : State :=
  updateLines { setCause .selectTimeout s with
    cmdPhase := 0x00#8
    mode := .disconnected
    phase := .free
    tc := 0x0000#16
    xferActive := false
    xferRemaining := 0
    cstate := .completed }

/-- `cc_select(c)`: Target-Selected (R295). -/
def ccSelect (c : Byte) (s : State) : State :=
  { s with
    mode := .initiator
    cmdPhase := if xferFlag c then 0x60#8 else 0x10#8
    phase := if 0 < s.xferRemaining then .data else .status
    xferActive := s.xferActive || (xferFlag c && decide (0 < s.xferRemaining)) }

/-- The phase a Command-Complete of another timed command leaves (R296). -/
def ccOtherPhase (c : Byte) (p : Phase) : Phase :=
  if c = 0x20#8 then .data
  else if c = 0x21#8 then .status
  else if c = 0x22#8 then .message
  else if c = 0x30#8 ∧ p = .status then .message
  else p

/-- `cc_other(c)` (R296). -/
def ccOther (c : Byte) (s : State) : State := { s with phase := ccOtherPhase c s.phase }

/-- The effect of the command in slot 0 when its Command-Complete fires, before the cause is raised (R294). -/
def ccEffect (s : State) : State :=
  if isSelect (opcode (slot0 s)) then ccSelect (opcode (slot0 s)) s else ccOther (opcode (slot0 s)) s

/-- `on_command_complete()` (R294). -/
def onCommandComplete (s : State) : State :=
  updateLines { setCause .commandComplete (ccEffect s) with cstate := .completed }

/-- `fire()`: the pending completion taken first, then its handler (R292). -/
def fire (s : State) : State :=
  match s.pending with
  | none => s
  | some ⟨.sel, _⟩ => onSelectTimeout (cancel s)
  | some ⟨.cc, _⟩ => onCommandComplete (cancel s)

/-- A completion is pending and its deadline is reached: `pending != None and pending.deadline <= now` (R297). -/
def due (s : State) : Bool :=
  match s.pending with
  | none => false
  | some p => p.deadline ≤ s.now

/-- The completion pending is of kind `k`. -/
def pendingKind (k : CompletionKind) (s : State) : Bool :=
  match s.pending with
  | none => false
  | some p => p.kind = k

/-- Virtual time one cycle on. -/
def tick (s : State) : State := { s with now := s.now + 1 }

/-- One cycle of the time advance (R297). -/
def cycle (s : State) : State := if due (tick s) then fire (tick s) else tick s

/-- `ADV(n)`: `n` cycles (R297). -/
def advance : Nat → State → State
  | 0, s => s
  | n + 1, s => advance n (cycle s)

end Sys2Proof.Machine
end

