-- ==== Sys2Proof/Machine/Events.lean ====
section
/-! DEFINITION. The events (spec/30_encoding.md R113): the time advance, the hard reset, the parity force and the
two firings. -/

namespace Sys2Proof.Machine

open Host (Outcome)

/-- `ADV n` (spec/47_timer_events.md R297). -/
def execAdv (n : Nat) (s : State) : Outcome State Fault Refusal := .next (advance n s)

/-- `HRESET` (spec/70_reset_and_hazards.md R350). -/
def execHreset (s : State) : Outcome State Fault Refusal := .next (updateLines (fullReset s))

/-- `PARITY b` (spec/60_exceptions.md R320). -/
def execParity (b : Bool) (s : State) : Outcome State Fault Refusal := .next { s with pe := b }

/-- `FIRE.SEL`: the Select-Timeout delivered when `pending = (SEL, t) and t <= now` (spec/47_timer_events.md R292,
R293). Where none is due the event does not occur and nothing changes (DEDUCED, log entry 16). -/
def execFireSel (s : State) : Outcome State Fault Refusal :=
  .next (if pendingKind .sel s ∧ due s then fire s else s)

/-- `FIRE.CC`: the Command-Complete delivered when `pending = (CC, t) and t <= now` (spec/47_timer_events.md R292,
R294). Where none is due the event does not occur and nothing changes (DEDUCED, log entry 16). -/
def execFireCc (s : State) : Outcome State Fault Refusal :=
  .next (if pendingKind .cc s ∧ due s then fire s else s)

end Sys2Proof.Machine
end

