-- ==== Sys2Proof/Machine/Dispatch.lean ====
section
/-! DEFINITION. The dispatch of every operation to its meaning, one arm per row of spec/opcode_table.json. -/

namespace Sys2Proof.Machine

def exec (i : Instr) (s : State) : Host.Outcome State Fault Refusal :=
  match i with
  | .rdTcl => Sys2Proof.Machine.execRdTcl s
  | .rdTch => Sys2Proof.Machine.execRdTch s
  | .rdFifo => Sys2Proof.Machine.execRdFifo s
  | .rdCmd => Sys2Proof.Machine.execRdCmd s
  | .rdStat => Sys2Proof.Machine.execRdStat s
  | .rdIntstat => Sys2Proof.Machine.execRdIntstat s
  | .rdSeq => Sys2Proof.Machine.execRdSeq s
  | .rdFflags => Sys2Proof.Machine.execRdFflags s
  | .rdConfig => Sys2Proof.Machine.execRdConfig s
  | .rdCcf => Sys2Proof.Machine.execRdCcf s
  | .wrTcl v => Sys2Proof.Machine.execWrTcl v s
  | .wrTch v => Sys2Proof.Machine.execWrTch v s
  | .wrFifo v => Sys2Proof.Machine.execWrFifo v s
  | .wrCmd v => Sys2Proof.Machine.execWrCmd v s
  | .wrBusid v => Sys2Proof.Machine.execWrBusid v s
  | .wrTimeout v => Sys2Proof.Machine.execWrTimeout v s
  | .wrSyncp v => Sys2Proof.Machine.execWrSyncp v s
  | .wrSynco v => Sys2Proof.Machine.execWrSynco v s
  | .wrConfig v => Sys2Proof.Machine.execWrConfig v s
  | .wrCcf v => Sys2Proof.Machine.execWrCcf v s
  | .reset x => Sys2Proof.Machine.execReset x s
  | .flush x => Sys2Proof.Machine.execFlush x s
  | .devReset x => Sys2Proof.Machine.execDevReset x s
  | .busReset x => Sys2Proof.Machine.execBusReset x s
  | .select x => Sys2Proof.Machine.execSelect x s
  | .selXfer x => Sys2Proof.Machine.execSelXfer x s
  | .selAtn x => Sys2Proof.Machine.execSelAtn x s
  | .selAtnXfer x => Sys2Proof.Machine.execSelAtnXfer x s
  | .tSendData x => Sys2Proof.Machine.execTSendData x s
  | .tSendStat x => Sys2Proof.Machine.execTSendStat x s
  | .tReselect x => Sys2Proof.Machine.execTReselect x s
  | .tDisconnect x => Sys2Proof.Machine.execTDisconnect x s
  | .xfer x => Sys2Proof.Machine.execXfer x s
  | .release x => Sys2Proof.Machine.execRelease x s
  | .illegal v => Sys2Proof.Machine.execIllegal v s
  | .adv n => Sys2Proof.Machine.execAdv n s
  | .hreset => Sys2Proof.Machine.execHreset s
  | .parity b => Sys2Proof.Machine.execParity b s
  | .fireSel => Sys2Proof.Machine.execFireSel s
  | .fireCc => Sys2Proof.Machine.execFireCc s

end Sys2Proof.Machine
end

