-- ==== Sys2Proof/Machine/Step.lean ====
section
/-! DEFINITION. One step: the next stimulus is taken from the inbox, decoded and performed. -/

namespace Sys2Proof.Machine

open Host (Outcome)

/-- One operation of the total order of spec/20_memory.md R81. With no stimulus waiting the controller waits for one
and nothing changes (spec/70_reset_and_hazards.md R351; DESIGN CHOICE, log entry 2); a raw stimulus that is no
operation is refused by name. -/
def step (s : State) : Outcome State Fault Refusal :=
  match s.inbox with
  | [] => .next s
  | p :: rest =>
    match decode p with
    | .ok i => exec i { s with inbox := rest }
    | .error e => .refused (.notAnOperation e)

/-- The state with the stimulus of bits `w` placed where `step` fetches its next one: in front of the inbox. A
program is a list of stimuli given from outside (spec/30_encoding.md R101; log entry 1). -/
def State.withFetchWord (s : State) (nbits w : Nat) : State :=
  { s with inbox := stimulusOfBits nbits w :: s.inbox }

end Sys2Proof.Machine
end

