-- ==== Sys2Proof/Safety.lean ====
section
/-! DEFINITION. What the statements speak of: the invariants of spec/10_state.md R53, the strengthening that every
step keeps, runs, the output trace, and the time advance in closed form. -/

namespace Sys2Proof.Machine

open Host (Outcome)

/-! ## The invariants of R53, in its order -/

/-- Invariant 1: `|fifo| <= 16`. -/
abbrev FifoFits (s : State) : Prop := s.fifo.length ≤ fifoCap

/-- Invariant 2: `|cmdq| <= 2`. -/
abbrev QueueFits (s : State) : Prop := s.cmdq.length ≤ cmdqDepth

/-- Invariant 3: `cstate = IDLE` exactly when `cmdq = []`. -/
abbrev IdleIffEmpty (s : State) : Prop := s.cstate = .idle ↔ s.cmdq = []

/-- Invariant 4: `irq = 1` exactly when `int != 0`, and `drq = xfer_active`. -/
abbrev LinesAgree (s : State) : Prop := s.irq = (s.int != 0#5) ∧ s.drq = s.xferActive

/-- Invariant 5: a transfer is active only with bytes owed, in mode `I`, phase `DATA`, to a populated slot. -/
abbrev TransferSound (s : State) : Prop :=
  s.xferActive = true →
    0 < s.xferRemaining ∧ s.mode = .initiator ∧ s.phase = .data ∧ populated s s.selTarget = true

/-- Invariant 6: `pending != None` implies `cstate = EXECUTING`. -/
abbrev PendingExecuting (s : State) : Prop := s.pending.isSome = true → s.cstate = .executing

/-- Invariant 7: `pending = (k, t)` implies `t > now`. -/
abbrev DeadlineAhead (s : State) : Prop := ∀ p ∈ s.pending, s.now < p.deadline

/-- Invariant 8: in mode `D` the phase is `FREE`, `SELECTION` or `COMMAND` and no transfer is active. -/
abbrev DisconnectedQuiet (s : State) : Prop :=
  s.mode = .disconnected →
    (s.phase = .free ∨ s.phase = .selection ∨ s.phase = .command) ∧ s.xferActive = false

/-- Invariant 9: `cmd_phase` is 0x00, 0x10 or 0x60. -/
abbrev SequenceKnown (s : State) : Prop := s.cmdPhase = 0x00#8 ∨ s.cmdPhase = 0x10#8 ∨ s.cmdPhase = 0x60#8

/-- The invariants of spec/10_state.md R53; the tenth, "at most one pending completion", holds by type. -/
abbrev StateSound (s : State) : Prop :=
  FifoFits s ∧ QueueFits s ∧ IdleIffEmpty s ∧ LinesAgree s ∧ TransferSound s ∧ PendingExecuting s ∧
  DeadlineAhead s ∧ DisconnectedQuiet s ∧ SequenceKnown s

/-! ## The strengthening that makes them inductive -/

/-- A command that ends by the timer or by the data, in the mode it is valid in (R192, R271). -/
def runsIn (mode : Mode) (c : Byte) : Bool :=
  match mode with
  | .disconnected => isSelect c
  | .target => c = 0x20#8 || c = 0x21#8 || c = 0x22#8
  | .initiator => c = 0x30#8

/-- What is `EXECUTING` is such a command. -/
abbrev ExecutingRuns (s : State) : Prop := s.cstate = .executing → runsIn s.mode (opcode (slot0 s)) = true

/-- What is `EXECUTING` waits for the timer, or is an XFER that waits for the data (R271). -/
abbrev ExecutingWaits (s : State) : Prop :=
  s.cstate = .executing → s.pending.isSome = true ∨ (s.xferActive = true ∧ opcode (slot0 s) = 0x30#8)

/-- What is `DEFERRED` is valid and lacks FIFO bytes (R41, R191). -/
abbrev DeferredLacks (s : State) : Prop :=
  s.cstate = .deferred →
    valid (opcode (slot0 s)) s.mode = true ∧ s.fifo.length < need (opcode (slot0 s))

/-- No immediate opcode is in the queue (R187, R194). -/
abbrev QueueQueued (s : State) : Prop := ∀ v ∈ s.cmdq, isImmediate (opcode v) = false

/-- Bytes are owed only by a populated slot. -/
abbrev OwedByDevice (s : State) : Prop := 0 < s.xferRemaining → populated s s.selTarget = true

/-- In mode `D` bytes are owed only while a select's Command-Complete is pending. -/
abbrev OwedWhileSelecting (s : State) : Prop :=
  s.mode = .disconnected → 0 < s.xferRemaining → ∃ p, s.pending = some p ∧ p.kind = .cc

/-- The timer and the data pass-through are never on together. -/
abbrev TimerOrTransfer (s : State) : Prop := s.pending.isSome = true → s.xferActive = false

/-- The inductive invariant: R53 and what its proof needs of the rules of files 42 to 47. -/
abbrev MachineInv (s : State) : Prop :=
  StateSound s ∧ ExecutingRuns s ∧ ExecutingWaits s ∧ DeferredLacks s ∧ QueueQueued s ∧ OwedByDevice s ∧
  OwedWhileSelecting s ∧ TimerOrTransfer s

/-! ## Runs -/

/-- What the environment fixes before the first stimulus, and the stimuli themselves: the parameters and inputs of
spec/10_state.md R54. -/
structure Environment where
  now : Nat
  dev : Vector (Option Handle) 8
  units : DelayUnits
  inbox : List Stimulus
  lenIn : List Nat
  byteIn : List Byte
  freeCount : Nat
deriving DecidableEq, Repr

/-- The power-on state in an environment: the full-reset state with an empty output trace
(spec/70_reset_and_hazards.md R350), whatever the parameters and inputs are. -/
def powerOn (e : Environment) : State :=
  { State.reset with
    now := e.now
    dev := e.dev
    units := e.units
    inbox := e.inbox
    lenIn := e.lenIn
    byteIn := e.byteIn
    freeCount := e.freeCount }

/-- The operations of a list performed in order, stopping at the first that does not answer a next state. -/
def execAll : List Instr → State → Outcome State Fault Refusal
  | [], s => .next s
  | i :: is, s =>
    match exec i s with
    | .next t => execAll is t
    | .fault r => .fault r
    | .refused r => .refused r

/-- A command byte in offset 0x3's own operation or in a command row: the byte submitted, if the operation submits
one. -/
def submitted : Instr → Option Byte
  | .wrCmd v => some v
  | .reset x => some (commandByte 0x00#8 x)
  | .flush x => some (commandByte 0x01#8 x)
  | .devReset x => some (commandByte 0x02#8 x)
  | .busReset x => some (commandByte 0x03#8 x)
  | .select x => some (commandByte 0x10#8 x)
  | .selXfer x => some (commandByte 0x11#8 x)
  | .selAtn x => some (commandByte 0x12#8 x)
  | .selAtnXfer x => some (commandByte 0x13#8 x)
  | .tSendData x => some (commandByte 0x20#8 x)
  | .tSendStat x => some (commandByte 0x21#8 x)
  | .tReselect x => some (commandByte 0x22#8 x)
  | .tDisconnect x => some (commandByte 0x23#8 x)
  | .xfer x => some (commandByte 0x30#8 x)
  | .release x => some (commandByte 0x31#8 x)
  | .illegal v => some v
  | .rdTcl | .rdTch | .rdFifo | .rdCmd | .rdStat | .rdIntstat | .rdSeq | .rdFflags | .rdConfig | .rdCcf => none
  | .wrTcl _ | .wrTch _ | .wrFifo _ | .wrBusid _ => none
  | .wrTimeout _ | .wrSyncp _ | .wrSynco _ | .wrConfig _ | .wrCcf _ => none
  | .adv _ | .hreset | .parity _ | .fireSel | .fireCc => none

/-- The operation is a full reset: `HRESET`, or a write of `DEVRESET` (spec/70_reset_and_hazards.md R351). -/
def isFullReset (i : Instr) : Bool :=
  match submitted i with
  | some v => opcode v = 0x02#8
  | none => i = .hreset

/-- The operation is one of the four resets (spec/70_reset_and_hazards.md R351). -/
def isAnyReset (i : Instr) : Bool :=
  match submitted i with
  | some v => isImmediate (opcode v)
  | none => i = .hreset

/-! ## The output trace -/

/-- The level a line has after a list of edge events, from a level, if every event of that line changes its level:
"invoked on edge changes only" (spec/60_exceptions.md R311). -/
def levelAfter (l : Line) : Bool → List Edge → Option Bool
  | b, [] => some b
  | b, e :: es =>
    if e.line = l then (if e.level = b then none else levelAfter l e.level es) else levelAfter l b es

/-- The trace is one of edges only and ends at the levels the lines have, in the order of time. -/
abbrev TraceSound (s : State) : Prop :=
  levelAfter .irq false s.edges = some s.irq ∧ levelAfter .drq false s.edges = some s.drq ∧
  s.edges.Pairwise (fun a b => a.time ≤ b.time) ∧ ∀ e ∈ s.edges, e.time ≤ s.now

/-- The edge event of IRQ when a cause is raised on a line that may be high already. -/
def irqRise (s : State) : List Edge := if s.irq then [] else [⟨.irq, true, s.now⟩]

/-- The edge event of IRQ when the line is lowered. -/
def irqFall (s : State) : List Edge := if s.irq then [⟨.irq, false, s.now⟩] else []

/-- The edge event of DRQ when a transfer is armed. -/
def drqRise (s : State) : List Edge := if s.drq then [] else [⟨.drq, true, s.now⟩]

/-- The edge event of DRQ when a transfer ends. -/
def drqFall (s : State) : List Edge := if s.drq then [⟨.drq, false, s.now⟩] else []

/-! ## What is stored and never read -/

/-- The state without the written bits that spec/30_encoding.md R112 calls "stored and then ignored": both
synchronous registers, the configuration, and `bus_id[7:3]`. -/
def forgetIgnored (s : State) : State :=
  { s with syncPeriod := 0x00#8, syncOffset := 0x00#8, config := 0x00#8, busId := s.busId &&& 0x07#8 }

/-- The state without bit 7 of every queued command byte, which is "stored in `cmdq` as written, never read"
(spec/30_encoding.md R102). -/
def forgetBitSeven (s : State) : State := { s with cmdq := s.cmdq.map opcode }

/-- An outcome with its state changed. -/
def onNext (f : State → State) : Outcome State Fault Refusal → Outcome State Fault Refusal
  | .next s => .next (f s)
  | .fault r => .fault r
  | .refused r => .refused r

/-! ## The time advance in closed form -/

/-- `ADV n` at one stroke: the one completion that can fall due fires at its deadline (or at the first cycle, for a
deadline in the past), and the remaining cycles only pass (spec/47_timer_events.md R297). -/
def advanceAtOnce (n : Nat) (s : State) : State :=
  match s.pending with
  | none => { s with now := s.now + n }
  | some p =>
    if 0 < n ∧ p.deadline ≤ s.now + n then
      { fire { s with now := max p.deadline (s.now + 1) } with now := s.now + n }
    else { s with now := s.now + n }

/-! ## The moves of `cstate` -/

/-- One operation may take `cstate` from one value to another: the moves of spec/42_command_decoder.md R199, with
staying put. -/
def cstateMove : CState → CState → Bool
  | .idle, _ => true
  | .deferred, b => b ≠ .completed
  | .executing, b => b ≠ .deferred
  | .completed, _ => true

end Sys2Proof.Machine
end

