-- ==== Sys2Proof/Certificates/Slice0/Obligations.lean ====
section
/-! DEFINITION. The statements for the provers. Each docstring names the rule of spec/ that the statement
formalises; a clause that rests on a choice of the model names its log entry. -/

open Sys2Proof Sys2Proof.Machine Host

/-! ## Encoding -/

/-- spec/30_encoding.md R101, R102, R104, R111, R113: decoding the encoding of a well-formed operation gives it
back, with every operand at every value. -/
def Obligations.DecodeOfEncode : Prop :=
  ∀ i : Instr, i.wellFormed = true → decode (encode i) = .ok i

/-- R116, R101: what the decoder answers is well formed; a command byte and a write word are encoded back bit for
bit. -/
def Obligations.EncodeOfDecode : Prop :=
  (∀ p i, decode p = .ok i → i.wellFormed = true) ∧
  (∀ v, encode (decodeCommand v) = .cmd v) ∧
  (∀ w n i, kindField w = 0x1#4 → decode (.stim w n) = .ok i → encode i = .stim w 0)

/-- R101, R104: a few words written out from the tables decode to the operations they stand for. -/
def Obligations.TableWordsDecode : Prop :=
  decodeTableWord 16 0x0500 = some .rdIntstat ∧ decodeTableWord 16 0x12C0 = some (.wrFifo 0xC0) ∧
  decodeTableWord 16 0x1313 = some (.wrCmd 0x13) ∧ decodeTableWord 8 0x01 = some (.flush false) ∧
  decodeTableWord 8 0x13 = some (.selAtnXfer false) ∧ decodeTableWord 8 0xA2 = some (.tReselect true) ∧
  decodeTableWord 8 0x31 = some (.release false) ∧ decodeTableWord 8 0x24 = some (.illegal 0x24) ∧
  decodeTableWord 16 0x9000 = some .hreset ∧ decodeTableWord 16 0xA001 = some (.parity true)

/-- R101 "all other kinds are not stimuli", "`b` in {0, 1}", R72: the words refused, each by name, and the step that
refuses them. -/
def Obligations.OtherWordsRefused : Prop :=
  (∀ w n, kindField w ∉ [0x0#4, 0x1#4, 0x8#4, 0x9#4, 0xA#4] →
    decode (.stim w n) = .error (.notAStimulus (kindField w))) ∧
  (∀ w n, kindField w ∈ [0x0#4, 0x1#4] → 9#4 < offField w →
    decode (.stim w n) = .error (.offsetOutOfRange (offField w))) ∧
  (∀ w n, kindField w = 0xA#4 → w ∉ [0xA000#16, 0xA001#16] → decode (.stim w n) = .error (.parityOperand w)) ∧
  (∀ s p rest e, s.inbox = p :: rest → decode p = .error e → step s = .refused (.notAnOperation e))

/-- A step performs the decoded operation, with the stimulus taken from the inbox first. The clause that a step with
no stimulus changes nothing is the model's choice (log entry 2). -/
def Obligations.StepPerformsDecoded : Prop :=
  (∀ s p rest i, s.inbox = p :: rest → decode p = .ok i → step s = exec i { s with inbox := rest }) ∧
  (∀ s, s.inbox = [] → step s = .next s)

/-- R100, R114: a command byte written to offset 0x3 is the command of the opcode map, for all 256 bytes. -/
def Obligations.WrittenByteIsCommand : Prop :=
  ∀ v s, exec (.wrCmd v) s = exec (decodeCommand v) s

/-- R106: the legal command bytes of each mode, counted over the 128 values of `c`. -/
def Obligations.LegalCommandsCounted : Prop :=
  ((List.range 128).filter fun c => valid (BitVec.ofNat 8 c) .disconnected).length = 8 ∧
  ((List.range 128).filter fun c => valid (BitVec.ofNat 8 c) .target).length = 8 ∧
  ((List.range 128).filter fun c => valid (BitVec.ofNat 8 c) .initiator).length = 6 ∧
  (∀ v m, hasOpcode v = false → valid (opcode v) m = false)

/-- R102: `v` and `v ^ 0x80` are the same command; bit 7 is stored and makes no other difference. -/
def Obligations.BitSevenIgnored : Prop :=
  ∀ v s, onNext forgetBitSeven (exec (.wrCmd v) s) = onNext forgetBitSeven (exec (.wrCmd (v ^^^ 0x80#8)) s)

/-! ## The register file -/

/-- R132, R133, R136, R142, R144, R148: the reads without a side effect: the halves of `tc`, 0x00 from the two
write-only offsets, the sequence step, the number of bytes in the FIFO. Nothing else changes. -/
def Obligations.PlainReads : Prop :=
  ∀ s, exec .rdTcl s = .next { s with reads := s.reads ++ [⟨0x0, s.tc.extractLsb' 0 8⟩] } ∧
    exec .rdTch s = .next { s with reads := s.reads ++ [⟨0x1, s.tc.extractLsb' 8 8⟩] } ∧
    exec .rdCmd s = .next { s with reads := s.reads ++ [⟨0x3, 0x00#8⟩] } ∧
    exec .rdSeq s = .next { s with reads := s.reads ++ [⟨0x6, s.cmdPhase⟩] } ∧
    exec .rdFflags s = .next { s with reads := s.reads ++ [⟨0x7, BitVec.ofNat 8 s.fifo.length⟩] } ∧
    (FifoFits s → (fifoFlagsByte s).toNat = s.fifo.length) ∧
    exec .rdCcf s = .next { s with reads := s.reads ++ [⟨0x9, 0x00#8⟩] }

/-- R134, R135: `WR.TCL` and `WR.TCH` replace one half of `tc`, keep the other and change nothing else. -/
def Obligations.TransferCounterWrites : Prop :=
  ∀ s v, decode (.stim (stimWord 0x1 0x0 v) 0) = .ok (.wrTcl v) ∧ decode (.stim (stimWord 0x1 0x1 v) 0) = .ok (.wrTch v) ∧
    exec (.wrTcl v) s = .next { s with tc := s.tc.extractLsb' 8 8 ++ v } ∧
    exec (.wrTch v) s = .next { s with tc := v ++ s.tc.extractLsb' 0 8 }

/-- R138, R33: `RD.STAT` returns `irq ge pe mode phase` in bits 7, 6, 5, 4:3, 2:0 and changes nothing. -/
def Obligations.StatusReadLayout : Prop :=
  ∀ s, decode (.stim (stimWord 0x0 0x4 0x00) 0) = .ok .rdStat ∧
    exec .rdStat s = .next { s with reads := s.reads ++ [⟨0x4, statusByte s⟩] } ∧
    (statusByte s).getLsbD 7 = s.irq ∧ (statusByte s).getLsbD 6 = s.ge ∧ (statusByte s).getLsbD 5 = s.pe ∧
    (statusByte s).extractLsb' 3 2 = (match s.mode with | .disconnected => 0#2 | .target => 1#2 | .initiator => 2#2) ∧
    (statusByte s).extractLsb' 0 3 =
      (match s.phase with
        | .free => 0#3 | .selection => 1#3 | .command => 2#3 | .data => 3#3 | .status => 4#3 | .message => 5#3)

/-- R146, R147: the configuration register is written whole and read back as written. -/
def Obligations.ConfigurationWrittenAndRead : Prop :=
  ∀ s v, exec (.wrConfig v) s = .next { s with config := v } ∧
    exec .rdConfig s = .next { s with reads := s.reads ++ [⟨0x8, s.config⟩] } ∧
    execAll [.wrConfig v, .rdConfig] s = .next { s with config := v, reads := s.reads ++ [⟨0x8, v⟩] }

/-- R140, R141, R143, R145, R149: the plain stores of offsets 0x4, 0x5, 0x6, 0x7, 0x9 store one byte and change
nothing else, a scheduled deadline among it. -/
def Obligations.PlainStores : Prop :=
  ∀ s v, exec (.wrBusid v) s = .next { s with busId := v } ∧
    exec (.wrTimeout v) s = .next { s with timeout := v } ∧
    exec (.wrSyncp v) s = .next { s with syncPeriod := v } ∧
    exec (.wrSynco v) s = .next { s with syncOffset := v } ∧
    exec (.wrCcf v) s = .next { s with ccf := v }

/-- R130, R131, R72, R74: `MemRead` and `MemWrite` select the operation by offset, and are defined for one byte at
offsets 0x0 to 0x9 only. -/
def Obligations.OffsetSelectsOperation : Prop :=
  (∀ off s, memRead off 1 s =
    if off < 10 then
      match decodeRead (BitVec.ofNat 4 off) with
      | .ok i => exec i s
      | .error e => .refused (.notAnOperation e)
    else .refused (.offsetOutOfRange off)) ∧
  (∀ off v s, memWrite off 1 v s =
    if off < 10 then
      match decodeWrite (BitVec.ofNat 4 off) v with
      | .ok i => exec i s
      | .error e => .refused (.notAnOperation e)
    else .refused (.offsetOutOfRange off)) ∧
  (∀ off n v s, n ≠ 1 → memRead off n s = .refused (.notByteWide n) ∧ memWrite off n v s = .refused (.notByteWide n))

/-- R130, R13: every register read answers a next state and returns exactly one byte, the one the read-side view
shows. -/
def Obligations.ReadReturnsView : Prop :=
  ∀ (off : Offset) s, ∃ t, memRead off.val 1 s = .next t ∧ t.reads = s.reads ++ [⟨off, readView off s⟩]

/-- R77, R361: reads of every offset but 0x2 and 0x5 change nothing, and doing one twice returns the same byte
twice. -/
def Obligations.OtherReadsIdempotent : Prop :=
  ∀ (off : Offset) s, off ≠ 2 → off ≠ 5 →
    memRead off.val 1 s = .next { s with reads := s.reads ++ [⟨off, readView off s⟩] } ∧
    readView off { s with reads := s.reads ++ [⟨off, readView off s⟩] } = readView off s

/-! ## The FIFO and the data path -/

/-- R171, R172, R179, R180: with no transfer active and no command deferred, a push appends or, on a full FIFO,
changes nothing, and a pop takes the oldest byte or, on an empty FIFO, returns 0x00. -/
def Obligations.FifoPushAndPop : Prop :=
  ∀ s v, s.xferActive = false →
    (s.cstate ≠ .deferred → s.fifo.length < 16 → exec (.wrFifo v) s = .next { s with fifo := s.fifo ++ [v] }) ∧
    (s.cstate ≠ .deferred → s.fifo.length = 16 → exec (.wrFifo v) s = .next s) ∧
    (∀ w rest, s.fifo = w :: rest →
      exec .rdFifo s = .next { s with fifo := rest, reads := s.reads ++ [⟨0x2, w⟩] }) ∧
    (s.fifo = [] → exec .rdFifo s = .next { s with reads := s.reads ++ [⟨0x2, 0x00#8⟩] })

/-- R182: pushing up to 16 bytes and popping as many returns them in order; no other field changes. -/
def Obligations.FifoRoundTrip : Prop :=
  ∀ s (bs : List Byte), s.fifo = [] → s.xferActive = false → s.cstate ≠ .deferred → bs.length ≤ 16 →
    execAll (bs.map Instr.wrFifo ++ List.replicate bs.length Instr.rdFifo) s =
      .next { s with reads := s.reads ++ bs.map fun b => ⟨0x2, b⟩ }

/-- R180, R191, R108: a push under a deferred command that still lacks bytes only stores the byte. The push that
supplies the last byte starts the command, whichever of the six deferrable commands it is: it does what the write of
the command to an empty queue does with that byte already in the FIFO, up to what waits in slot 1. The last clause is
R180's example, a `SELATNXFER` against a populated slot, written out; the device's answer stands in the state (log
entry 6). -/
def Obligations.PushStartsDeferred : Prop :=
  (∀ s v k b rest, (opcode v, k) ∈ [(0x11#8, 1), (0x12#8, 1), (0x13#8, 2), (0x20#8, 2), (0x21#8, 2), (0x22#8, 1)] →
    s.xferActive = false → s.cstate = .deferred → s.cmdq = v :: rest → valid (opcode v) s.mode = true →
    (s.fifo.length + 1 < k → exec (.wrFifo b) s = .next { s with fifo := s.fifo ++ [b] }) ∧
    (k ≤ s.fifo.length + 1 → s.fifo.length < 16 →
      ∃ t, exec (.wrCmd v) { s with fifo := s.fifo ++ [b], cmdq := [], cstate := .idle } = .next t ∧
        t.cstate = .executing ∧ t.cmdq = [v] ∧ exec (.wrFifo b) s = .next { t with cmdq := v :: rest })) ∧
  (∀ s v b m rest (tgt : TargetId), s.xferActive = false → s.cstate = .deferred → s.cmdq = v :: rest →
    opcode v = 0x13#8 → s.mode = .disconnected → s.fifo = [m] → tgt.val = s.busId.toNat % 8 →
    populated s tgt = true →
    exec (.wrFifo b) s = .next { s with
      fifo := []
      cstate := .executing
      selTarget := tgt
      phase := .command
      cmdPhase := 0x00#8
      pending := some ⟨.cc, s.now + s.units.ccUnit * ccfEff s.ccf⟩
      xferRemaining := nextLength s
      lenIn := s.lenIn.tail
      freeCount := s.freeCount + 1
      calls := s.calls ++ [.execute tgt [b]] })

/-- R176, R177, R88: while a transfer is active with more than one byte owed, an access of offset 0x2 makes one call
on the selected device, counts one byte and leaves the FIFO alone. The device's answer stands in the state (log
entry 6). -/
def Obligations.DataBytePassesThrough : Prop :=
  ∀ s v, s.xferActive = true → 1 < s.xferRemaining →
    exec .rdFifo s = .next { s with
      xferRemaining := s.xferRemaining - 1
      byteIn := s.byteIn.tail
      freeCount := s.freeCount + 1
      calls := s.calls ++ [.readData s.selTarget]
      reads := s.reads ++ [⟨0x2, nextByte s⟩] } ∧
    exec (.wrFifo v) s = .next { s with
      xferRemaining := s.xferRemaining - 1
      calls := s.calls ++ [.writeData s.selTarget v] }

/-- R178: the last byte owed ends the transfer and the phase becomes `STATUS`; a waiting `XFER` ends with
Command-Complete, and without one no cause is raised. -/
def Obligations.LastDataByteEndsTransfer : Prop :=
  ∀ s v, LinesAgree s → s.xferActive = true → s.xferRemaining = 1 →
    (xferWaiting s = true →
      exec (.wrFifo v) s = .next { s with
        xferRemaining := 0
        calls := s.calls ++ [.writeData s.selTarget v]
        xferActive := false
        drq := false
        phase := .status
        int := s.int ||| 0b00010#5
        irq := true
        cstate := .completed
        edges := s.edges ++ irqRise s ++ [⟨.drq, false, s.now⟩] }) ∧
    (xferWaiting s = false →
      exec (.wrFifo v) s = .next { s with
        xferRemaining := 0
        calls := s.calls ++ [.writeData s.selTarget v]
        xferActive := false
        drq := false
        phase := .status
        edges := s.edges ++ [⟨.drq, false, s.now⟩] })

/-- R176, R178, R88, R310: a whole transfer by reads: the device's bytes come back in call order, one call each, and
the transfer ends with the last. The device's answers stand in the state (log entry 6). -/
def Obligations.WholeTransferRead : Prop :=
  ∀ s (bs rest : List Byte), LinesAgree s → IdleIffEmpty s → s.xferActive = true → s.xferRemaining = bs.length → bs ≠ [] →
    s.byteIn = bs ++ rest →
    ∃ t, execAll (List.replicate bs.length Instr.rdFifo) s = .next t ∧
      (t.reads = s.reads ++ bs.map fun b => ⟨0x2, b⟩) ∧
      t.calls = s.calls ++ List.replicate bs.length (DeviceCall.readData s.selTarget) ∧
      t.byteIn = rest ∧ t.fifo = s.fifo ∧ t.tc = s.tc ∧ t.mode = s.mode ∧ t.phase = .status ∧
      t.xferActive = false ∧ t.drq = false ∧ t.xferRemaining = 0 ∧
      t.int = (if xferWaiting s then s.int ||| 0b00010#5 else s.int) ∧
      t.cstate = (if xferWaiting s then .completed else s.cstate)

/-! ## The command decoder -/

/-- R190, R314, R106: a command that is not valid for the mode is not executed: `IC` and IRQ are raised, the byte
stays in slot 0, nothing else changes; a byte in no row of the opcode map is such a command in every mode. -/
def Obligations.IllegalCommandRejected : Prop :=
  ∀ s v, LinesAgree s → s.cmdq = [] →
    (isImmediate (opcode v) = false → valid (opcode v) s.mode = false →
      exec (.wrCmd v) s = .next { s with
        cmdq := [v], cstate := .completed, int := s.int ||| 0b00100#5, irq := true
        edges := s.edges ++ irqRise s }) ∧
    (hasOpcode v = false →
      exec (.illegal v) s = .next { s with
        cmdq := [v], cstate := .completed, int := s.int ||| 0b00100#5, irq := true
        edges := s.edges ++ irqRise s })

/-- R186, R188: a second command waits in slot 1 and nothing else happens; a third is lost, sets Gross Error and
changes nothing else. -/
def Obligations.SecondWaitsThirdIsLost : Prop :=
  ∀ s v, isImmediate (opcode v) = false →
    (s.cmdq.length = 1 → exec (.wrCmd v) s = .next { s with cmdq := s.cmdq ++ [v] }) ∧
    (s.cmdq.length = 2 → exec (.wrCmd v) s = .next { s with ge := true })

/-- R191, R108: a valid command whose FIFO bytes are missing is deferred, and nothing else changes; the bytes needed
are those of R108's table; no other command of the opcode map is ever deferred. -/
def Obligations.MissingBytesDefer : Prop :=
  (∀ s v k, (opcode v, k) ∈ [(0x11#8, 1), (0x12#8, 1), (0x13#8, 2), (0x20#8, 2), (0x21#8, 2), (0x22#8, 1)] →
    s.cmdq = [] → valid (opcode v) s.mode = true → s.fifo.length < k →
    exec (.wrCmd v) s = .next { s with cmdq := [v], cstate := .deferred }) ∧
  (∀ s v t, opcode v ∉ [0x11#8, 0x12#8, 0x13#8, 0x20#8, 0x21#8, 0x22#8] → s.cmdq = [] →
    exec (.wrCmd v) s = .next t → t.cstate ≠ .deferred) ∧
  (∀ c, need c =
    if c ∈ [0x13#8, 0x20#8, 0x21#8] then 2 else if c ∈ [0x11#8, 0x12#8, 0x22#8] then 1 else 0)

/-- R217, R186: `FLUSH` on an empty queue, as a command and as a write of offset 0x3, empties the FIFO and leaves no
command and no interrupt behind. -/
def Obligations.FlushEndsAtOnce : Prop :=
  ∀ s x, s.cmdq = [] → s.cstate = .idle →
    exec (.flush x) s = .next { s with fifo := [] } ∧
    exec (.wrCmd (commandByte 0x01#8 x)) s = .next { s with fifo := [] }

/-! ## Resets -/

/-- R216, R219, R187, R316, R340: `RESET` and `BUSRESET` at any time, whatever the queue holds. -/
def Obligations.PartialResets : Prop :=
  ∀ s x, LinesAgree s →
    exec (.reset x) s = .next { s with
      mode := .disconnected, cmdq := [], cstate := .idle, pending := none, phase := .free, cmdPhase := 0x00#8
      xferActive := false, xferRemaining := 0, ge := false
      drq := false, edges := s.edges ++ drqFall s } ∧
    exec (.busReset x) s = .next { s with
      mode := .disconnected, cmdq := [], cstate := .idle, pending := none, phase := .free, cmdPhase := 0x00#8
      xferActive := false, xferRemaining := 0, ge := false
      int := s.int ||| 0b10000#5, irq := true
      drq := false, edges := s.edges ++ irqRise s ++ drqFall s }

/-- R218, R350, R56: `DEVRESET` and `HRESET` leave the full-reset state; what is not the controller's stays. -/
def Obligations.FullResets : Prop :=
  ∀ s x i, i ∈ [Instr.devReset x, .hreset] →
    exec i s = .next { State.reset with
      now := s.now, dev := s.dev, units := s.units, inbox := s.inbox, lenIn := s.lenIn, byteIn := s.byteIn
      freeCount := s.freeCount, reads := s.reads, calls := s.calls
      edges := s.edges ++ irqFall s ++ drqFall s }

/-- R352: each of the four resets is defined in every state, reachable or not, and is idempotent; `DEVRESET` after
`HRESET` changes nothing; and the state left satisfies every invariant of R53, the FIFO's bound, which two of the
four keep, being the one invariant that a state must bring along. -/
def Obligations.ResetsTotalAndIdempotent : Prop :=
  ∀ s x i, i ∈ [Instr.reset x, .busReset x, .devReset x, .hreset] →
    ∃ t, exec i s = .next t ∧ exec i t = .next t ∧ (i = .hreset → exec (.devReset x) t = .next t) ∧
      (FifoFits s → StateSound t)

/-! ## The selects -/

/-- R233, R235, R289, R108, R23: a select that starts against an empty slot latches the target of `bus_id[2:0]`,
schedules the Select-Timeout and takes no FIFO byte. -/
def Obligations.SelectOfEmptySlot : Prop :=
  ∀ s x i c k (tgt : TargetId), (i, c, k) ∈
      [(Instr.select x, 0x10#8, 0), (.selXfer x, 0x11#8, 1), (.selAtn x, 0x12#8, 1), (.selAtnXfer x, 0x13#8, 2)] →
    s.cmdq = [] → s.mode = .disconnected → k ≤ s.fifo.length →
    tgt.val = s.busId.toNat % 8 → populated s tgt = false →
    exec i s = .next { s with
      cmdq := [commandByte c x]
      cstate := .executing
      selTarget := tgt
      phase := .selection
      cmdPhase := 0x00#8
      pending := some ⟨.sel, s.now + s.units.selUnit * ccfEff s.ccf * (s.timeout.toNat + 1)⟩ }

/-- R233, R234, R242, R290, R108, R23: a select that starts against a populated slot makes one call of `execute` on the
target of `bus_id[2:0]` with every FIFO byte, less the message byte of an ATN variant, and schedules a Command-Complete
instead. The device's answer stands in the state (log entry 6). -/
def Obligations.SelectOfPopulatedSlot : Prop :=
  ∀ s x i c k (tgt : TargetId), (i, c, k) ∈
      [(Instr.select x, 0x10#8, 0), (.selXfer x, 0x11#8, 1), (.selAtn x, 0x12#8, 1), (.selAtnXfer x, 0x13#8, 2)] →
    s.cmdq = [] → s.mode = .disconnected → k ≤ s.fifo.length →
    tgt.val = s.busId.toNat % 8 → populated s tgt = true →
    exec i s = .next { s with
      cmdq := [commandByte c x]
      cstate := .executing
      selTarget := tgt
      phase := .command
      cmdPhase := 0x00#8
      pending := some ⟨.cc, s.now + s.units.ccUnit * ccfEff s.ccf⟩
      fifo := []
      xferRemaining := nextLength s
      lenIn := s.lenIn.tail
      freeCount := s.freeCount + 1
      calls := s.calls ++
        [.execute tgt (if i = .selAtn x ∨ i = .selAtnXfer x then s.fifo.tail else s.fifo)] }

/-- R243 (a), R300: a select of an empty slot, with no cause pending, asserts IRQ exactly once, when the timeout
interval has elapsed and not before. -/
def Obligations.SelectTimesOutOnce : Prop :=
  ∀ s x i c k (tgt : TargetId), (i, c, k) ∈
      [(Instr.select x, 0x10#8, 0), (.selXfer x, 0x11#8, 1), (.selAtn x, 0x12#8, 1), (.selAtnXfer x, 0x13#8, 2)] →
    LinesAgree s → DisconnectedQuiet s → s.int = 0b00000#5 →
    s.cmdq = [] → s.mode = .disconnected → k ≤ s.fifo.length →
    tgt.val = s.busId.toNat % 8 → populated s tgt = false →
    (∃ t, execAll [i, .adv (selDelay s.units s.timeout s.ccf)] s = .next t ∧
      t.int = 0b00001#5 ∧ t.irq = true ∧ t.mode = .disconnected ∧ t.phase = .free ∧ t.cmdPhase = 0x00#8 ∧
      t.tc = 0x0000#16 ∧ t.cstate = .completed ∧ t.pending = none ∧ t.fifo = s.fifo ∧ t.calls = s.calls ∧
      t.edges = s.edges ++ [⟨.irq, true, s.now + selDelay s.units s.timeout s.ccf⟩]) ∧
    (∀ n, n < selDelay s.units s.timeout s.ccf →
      ∃ t, execAll [i, .adv n] s = .next t ∧ t.int = 0b00000#5 ∧ t.edges = s.edges)

/-- R239, R242, R295: a `SELATNXFER` to a populated slot, after `CC_DELAY` cycles: one call of `execute`,
`cmd_phase = 0x60`, mode `I`, Command-Complete, and DRQ when data is expected. The device's answer stands in the
state (log entry 6). -/
def Obligations.SelectWithTransferCompletes : Prop :=
  ∀ s x m (cdb : List Byte) (tgt : TargetId), LinesAgree s → DisconnectedQuiet s → s.int = 0b00000#5 → s.cmdq = [] →
    s.mode = .disconnected → s.fifo = m :: cdb → cdb ≠ [] →
    tgt.val = s.busId.toNat % 8 → populated s tgt = true →
    ∃ t, execAll [.selAtnXfer x, .adv (ccDelay s.units s.ccf)] s = .next t ∧
      t.int = 0b00010#5 ∧ t.irq = true ∧ t.mode = .initiator ∧ t.cmdPhase = 0x60#8 ∧ t.cstate = .completed ∧
      t.fifo = [] ∧ t.xferRemaining = nextLength s ∧
      t.phase = (if 0 < nextLength s then .data else .status) ∧
      t.xferActive = decide (0 < nextLength s) ∧ t.drq = decide (0 < nextLength s) ∧
      t.calls = s.calls ++ [.execute tgt cdb] ∧
      t.edges = s.edges ++ ⟨.irq, true, s.now + ccDelay s.units s.ccf⟩ ::
        (if 0 < nextLength s then [⟨.drq, true, s.now + ccDelay s.units s.ccf⟩] else [])

/-! ## The target and initiator commands -/

/-- R256, R257, R258, R259: a sending command of the target group drops its FIFO bytes and schedules a
Command-Complete. -/
def Obligations.TargetCommandStarts : Prop :=
  ∀ s x i c k, (i, c, k) ∈ [(Instr.tSendData x, 0x20#8, 2), (.tSendStat x, 0x21#8, 2), (.tReselect x, 0x22#8, 1)] →
    s.cmdq = [] → s.mode = .target → k ≤ s.fifo.length →
    exec i s = .next { s with
      cmdq := [commandByte c x]
      cstate := .executing
      fifo := s.fifo.drop k
      pending := some ⟨.cc, s.now + s.units.ccUnit * ccfEff s.ccf⟩ }

/-- R260, R273, R315: `TDISCONNECT` in mode `T` and `RELEASE` in mode `I` end the connection at once, with the
Disconnect cause; the sequence step is kept. -/
def Obligations.ConnectionEnds : Prop :=
  ∀ s x i c m, (i, c, m) ∈ [(Instr.tDisconnect x, 0x23#8, Mode.target), (.release x, 0x31#8, Mode.initiator)] →
    LinesAgree s → s.cmdq = [] → s.mode = m →
    exec i s = .next { s with
      cmdq := [commandByte c x]
      cstate := .completed
      mode := .disconnected
      phase := .free
      xferActive := false
      xferRemaining := 0
      int := s.int ||| 0b01000#5
      irq := true
      drq := false
      edges := s.edges ++ irqRise s ++ drqFall s }

/-- R272, R271: `XFER` in the data phase with bytes owed switches the pass-through on and sets no timer; in every
other case it schedules a Command-Complete. -/
def Obligations.XferStarts : Prop :=
  ∀ s x, LinesAgree s → s.cmdq = [] → s.mode = .initiator →
    (s.phase = .data → 0 < s.xferRemaining →
      exec (.xfer x) s = .next { s with
        cmdq := [commandByte 0x30#8 x]
        cstate := .executing
        xferActive := true
        drq := true
        edges := s.edges ++ drqRise s }) ∧
    ((s.phase ≠ .data ∨ s.xferRemaining = 0) →
      exec (.xfer x) s = .next { s with
        cmdq := [commandByte 0x30#8 x]
        cstate := .executing
        pending := some ⟨.cc, s.now + s.units.ccUnit * ccfEff s.ccf⟩ })

/-! ## The interrupt-status read -/

/-- R139, R324, R195: with no bit set the read changes nothing; with one set and no ended command in slot 0 it clears
the bits and lowers the line; with an ended command alone in the queue it also pops it. -/
def Obligations.InterruptStatusRead : Prop :=
  ∀ s, LinesAgree s →
    (s.int = 0b00000#5 → exec .rdIntstat s = .next { s with reads := s.reads ++ [⟨0x5, 0x00#8⟩] }) ∧
    (s.int ≠ 0b00000#5 → (s.cmdq = [] ∨ s.cstate ≠ .completed) →
      exec .rdIntstat s = .next { s with
        int := 0b00000#5, irq := false, edges := s.edges ++ [⟨.irq, false, s.now⟩]
        reads := s.reads ++ [⟨0x5, 0b000#3 ++ s.int⟩] }) ∧
    (∀ v, s.int ≠ 0b00000#5 → s.cmdq = [v] → s.cstate = .completed →
      exec .rdIntstat s = .next { s with
        int := 0b00000#5, irq := false, edges := s.edges ++ [⟨.irq, false, s.now⟩]
        cmdq := [], cstate := .idle
        reads := s.reads ++ [⟨0x5, 0b000#3 ++ s.int⟩] })

/-- R194, R196, R339 (b): the read that pops an ended command starts the chained one as if its byte were written into
an empty queue at that moment. -/
def Obligations.ChainedCommandStarts : Prop :=
  ∀ s v w, LinesAgree s → s.int ≠ 0b00000#5 → s.cmdq = [v, w] → s.cstate = .completed →
    isImmediate (opcode w) = false →
    ∃ t, exec (.wrCmd w) { s with
        int := 0b00000#5, irq := false, edges := s.edges ++ [⟨.irq, false, s.now⟩], cmdq := [], cstate := .idle }
        = .next t ∧
      exec .rdIntstat s = .next { t with reads := t.reads ++ [⟨0x5, 0b000#3 ++ s.int⟩] }

/-- R321 (c), R139 corner case 4: a chained command that is illegal for the mode raises IRQ again within the read:
the trace shows `irq(0)` then `irq(1)`. -/
def Obligations.ChainedIllegalRaisesAgain : Prop :=
  ∀ s v w, LinesAgree s → s.int ≠ 0b00000#5 → s.cmdq = [v, w] → s.cstate = .completed →
    valid (opcode w) s.mode = false →
    exec .rdIntstat s = .next { s with
      int := 0b00100#5
      irq := true
      cmdq := [w]
      edges := s.edges ++ [⟨.irq, false, s.now⟩, ⟨.irq, true, s.now⟩]
      reads := s.reads ++ [⟨0x5, 0b000#3 ++ s.int⟩] }

/-! ## The timer -/

/-- R288, R289, R290, R291: the clock-conversion factor, 0 acting as 1, and the two delays in terms of it; every delay
is at least one cycle, the Command-Complete delay is the shorter, and the Select-Timeout delay grows with the timeout
value, for every admissible choice of the parameters. -/
def Obligations.DelaysOrdered : Prop :=
  (ccfEff 0x00#8 = 1 ∧ ∀ c : Byte, c ≠ 0x00#8 → ccfEff c = c.toNat) ∧
  ∀ (u : DelayUnits) (t c : Byte),
    selDelay u t c = u.selUnit * ccfEff c * (t.toNat + 1) ∧ ccDelay u c = u.ccUnit * ccfEff c ∧
    1 ≤ ccDelay u c ∧ 1 ≤ selDelay u t c ∧ ccDelay u c < selDelay u t c ∧
    ∀ t' : Byte, t < t' → selDelay u t c < selDelay u t' c

/-- R292, R293, R312: the Select-Timeout fires. -/
def Obligations.SelectTimeoutFires : Prop :=
  ∀ s d, LinesAgree s → s.pending = some ⟨.sel, d⟩ → d ≤ s.now →
    exec .fireSel s = .next { s with
      pending := none
      int := s.int ||| 0b00001#5
      irq := true
      cmdPhase := 0x00#8
      mode := .disconnected
      phase := .free
      tc := 0x0000#16
      xferActive := false
      drq := false
      xferRemaining := 0
      cstate := .completed
      edges := s.edges ++ irqRise s ++ drqFall s }

/-- R292, R294, R295, R313: the Command-Complete of a select fires: Target-Selected, the sequence step by the transfer
flag, the data transfer armed by `SELXFER` and `SELATNXFER` when data is expected. -/
def Obligations.SelectCompleteFires : Prop :=
  ∀ s d v rest, LinesAgree s → s.xferActive = false → s.pending = some ⟨.cc, d⟩ → d ≤ s.now → s.cmdq = v :: rest →
    (opcode v ∈ [0x11#8, 0x13#8] →
      exec .fireCc s = .next { s with
        pending := none
        mode := .initiator
        cmdPhase := 0x60#8
        phase := if 0 < s.xferRemaining then .data else .status
        xferActive := decide (0 < s.xferRemaining)
        drq := decide (0 < s.xferRemaining)
        int := s.int ||| 0b00010#5
        irq := true
        cstate := .completed
        edges := s.edges ++ irqRise s ++ (if 0 < s.xferRemaining then [⟨.drq, true, s.now⟩] else []) }) ∧
    (opcode v ∈ [0x10#8, 0x12#8] →
      exec .fireCc s = .next { s with
        pending := none
        mode := .initiator
        cmdPhase := 0x10#8
        phase := if 0 < s.xferRemaining then .data else .status
        int := s.int ||| 0b00010#5
        irq := true
        cstate := .completed
        edges := s.edges ++ irqRise s })

/-- R292, R294, R296, R313: the Command-Complete of another timed command fires and moves the phase. -/
def Obligations.OtherCompleteFires : Prop :=
  ∀ s d v rest, LinesAgree s → s.pending = some ⟨.cc, d⟩ → d ≤ s.now → s.cmdq = v :: rest →
    opcode v ∈ [0x20#8, 0x21#8, 0x22#8, 0x30#8] →
    exec .fireCc s = .next { s with
      pending := none
      phase :=
        if opcode v = 0x20#8 then .data
        else if opcode v = 0x21#8 then .status
        else if opcode v = 0x22#8 then .message
        else if s.phase = .status then .message
        else s.phase
      int := s.int ||| 0b00010#5
      irq := true
      cstate := .completed
      edges := s.edges ++ irqRise s }

/-- R297: `ADV n`, one cycle at a time, is the advance at one stroke in which the one completion that can fall due
fires at its deadline. -/
def Obligations.AdvanceRefinesClosedForm : Prop :=
  ∀ s n, exec (.adv n) s = .next (advanceAtOnce n s)

/-- R297: `ADV a` then `ADV b` equals `ADV (a + b)`; `ADV 0` does nothing. -/
def Obligations.AdvanceSplits : Prop :=
  ∀ s a b, execAll [.adv a, .adv b] s = exec (.adv (a + b)) s ∧ exec (.adv 0) s = .next s

/-- R300 (a), R372: with no other stimulus nothing happens before a deadline, and at the deadline its handler runs,
once. -/
def Obligations.DeadlineIsMet : Prop :=
  ∀ s k d, s.pending = some ⟨k, d⟩ → s.now < d →
    (∀ n, s.now + n < d → exec (.adv n) s = .next { s with now := s.now + n }) ∧
    (∀ n, exec (.adv (d - s.now + n)) s =
      onNext (fun t => { t with now := d + n }) (exec (if k = .sel then .fireSel else .fireCc) { s with now := d }))

/-! ## Events -/

/-- R320, R318: the parity force stores its operand and changes nothing else. -/
def Obligations.ParityForced : Prop :=
  ∀ s b, exec (.parity b) s = .next { s with pe := b }

/-! ## Whole-machine rules -/

/-- R53, R56: the invariants hold at power-on in every environment; so does the rule of the trace. -/
def Obligations.InvariantAtPowerOn : Prop :=
  ∀ e, MachineInv (powerOn e) ∧ TraceSound (powerOn e)

/-- R53: the invariants, strengthened to be inductive, are kept by every operation. -/
def Obligations.InvariantKeptByStep : Prop :=
  ∀ s t, MachineInv s → step s = .next t → MachineInv t

/-- R53: the invariants of R53 hold after any number of operations from power-on, in every environment. -/
def Obligations.StateSoundInEveryRun : Prop :=
  ∀ e n t, Core.run Sys2Proof.core n (powerOn e) = .next t → StateSound t

/-- R311, R309, R310, R370: every edge event changes its line's level, the trace ends at the lines' levels, and its
times follow the order of emission. -/
def Obligations.TraceKeptByStep : Prop :=
  ∀ s t, TraceSound s → step s = .next t → TraceSound t

/-- R332, R331: no operation enters Target mode, so no run from power-on is ever in it and the four target commands
are illegal there (R261). -/
def Obligations.TargetModeNeverEntered : Prop :=
  (∀ s t, step s = .next t → t.mode = .target → s.mode = .target) ∧
  (∀ e n t, Core.run Sys2Proof.core n (powerOn e) = .next t → t.mode ≠ .target) ∧
  (∀ m c, c ∈ [0x20#8, 0x21#8, 0x22#8, 0x23#8] → m ≠ Mode.target → valid c m = false)

/-- R43, R331: the mode becomes `I` only by a Command-Complete, delivered by a time advance. -/
def Obligations.InitiatorModeByCompletion : Prop :=
  ∀ i s t, exec i s = .next t → t.mode = .initiator → s.mode ≠ .initiator →
    ((∃ n, i = .adv n) ∨ i = .fireCc) ∧ ∃ d, s.pending = some ⟨.cc, d⟩

/-- R199, R357: how `cstate` moves, and by what. Out of `IDLE` only a written command leads, out of `COMPLETED` only an
interrupt-status read with a bit set (to a command's state only if one is chained) or a reset, out of `DEFERRED` only a
FIFO push that starts the command or a reset, from `EXECUTING` to `COMPLETED` only a completion that falls due or the
last byte under an `XFER`, and from `EXECUTING` to `IDLE` only a reset. -/
def Obligations.CommandStateMoves : Prop :=
  ∀ i s t, MachineInv s → exec i s = .next t →
    cstateMove s.cstate t.cstate = true ∧
    (s.cstate = .idle → t.cstate ≠ .idle → ∃ v, submitted i = some v ∧ isImmediate (opcode v) = false) ∧
    (s.cstate = .completed → t.cstate ≠ .completed →
      (i = .rdIntstat ∧ s.int ≠ 0b00000#5 ∧ (t.cstate = .idle ∨ s.cmdq.length = 2)) ∨
      (isAnyReset i = true ∧ t.cstate = .idle)) ∧
    (s.cstate = .deferred → t.cstate ≠ .deferred →
      ((∃ v, i = .wrFifo v) ∧ t.cstate = .executing) ∨ (isAnyReset i = true ∧ t.cstate = .idle)) ∧
    (s.cstate = .executing → t.cstate = .completed →
      (∃ n p, i = .adv n ∧ s.pending = some p ∧ p.deadline ≤ s.now + n) ∨
      ((i = .rdFifo ∨ ∃ v, i = .wrFifo v) ∧ s.xferActive = true ∧ s.xferRemaining = 1 ∧ opcode (slot0 s) = 0x30#8)) ∧
    (s.cstate = .executing → t.cstate = .idle → isAnyReset i = true)

/-- R29, R30, R317, R318: Gross Error is set only by a command write that finds the queue full, and cleared only by a
reset; the Parity flag changes only by the parity force and by a full reset. -/
def Obligations.ErrorFlagsSticky : Prop :=
  ∀ i s t, exec i s = .next t →
    (s.ge = true → t.ge = false → isAnyReset i = true) ∧
    (s.ge = false → t.ge = true → (∃ v, submitted i = some v) ∧ cmdqDepth ≤ s.cmdq.length) ∧
    ((∀ b, i ≠ .parity b) → isFullReset i = false → t.pe = s.pe)

/-- R22 to R26, R78: each write-side register is changed by its own write and by a full reset only; `tc` also by the
Select-Timeout. -/
def Obligations.WriteSideRegistersKept : Prop :=
  ∀ i s t, exec i s = .next t → isFullReset i = false →
    ((∀ v, i ≠ .wrBusid v) → t.busId = s.busId) ∧ ((∀ v, i ≠ .wrTimeout v) → t.timeout = s.timeout) ∧
    ((∀ v, i ≠ .wrSyncp v) → t.syncPeriod = s.syncPeriod) ∧ ((∀ v, i ≠ .wrSynco v) → t.syncOffset = s.syncOffset) ∧
    ((∀ v, i ≠ .wrConfig v) → t.config = s.config) ∧ ((∀ v, i ≠ .wrCcf v) → t.ccf = s.ccf) ∧
    ((∀ v, i ≠ .wrTcl v) → (∀ v, i ≠ .wrTch v) →
      t.tc = s.tc ∨ (t.tc = 0x0000#16 ∧ ∃ d, s.pending = some ⟨.sel, d⟩))

/-- R112, R25, R26, R308: what is stored and then ignored makes no difference to any operation but the read-back of
the configuration. -/
def Obligations.IgnoredBitsUnobservable : Prop :=
  ∀ i s, i ≠ .rdConfig →
    onNext forgetIgnored (exec i s) = onNext forgetIgnored (exec i (forgetIgnored s))

/-- R49, R54, R55, R298, R82: the parameters are fixed for a run, the outputs only grow, and virtual time moves by the
time advance alone, by its operand. -/
def Obligations.ParametersFixedOutputsGrow : Prop :=
  ∀ i s t, exec i s = .next t →
    t.dev = s.dev ∧ t.units = s.units ∧ t.inbox = s.inbox ∧ s.reads <+: t.reads ∧ s.edges <+: t.edges ∧
    s.calls <+: t.calls ∧ t.now = s.now + (match i with | .adv n => n | _ => 0)

/-- R50, R242, R334: one operation makes at most one call on a device; a call of `execute` comes only with the start of
a command, `read_data` and `write_data` only with an access of offset 0x2, and `identify` never. -/
def Obligations.DeviceCallsOfOneOperation : Prop :=
  ∀ i s t, exec i s = .next t →
    t.calls = s.calls ∨
    (∃ cdb, t.calls = s.calls ++ [.execute t.selTarget cdb] ∧ t.cstate = .executing ∧
      populated s t.selTarget = true) ∨
    (i = .rdFifo ∧ s.xferActive = true ∧ t.calls = s.calls ++ [.readData s.selTarget]) ∨
    (∃ v, i = .wrFifo v ∧ s.xferActive = true ∧ t.calls = s.calls ++ [.writeData s.selTarget v])

/-! ## The fields of a command byte -/

/-- R102, R104, R106, R187: what the statements call the opcode of a byte, the opcode map, validity in a mode and the
immediate commands, for all 256 bytes, written out. -/
def Obligations.CommandByteTables : Prop :=
  ∀ v : Byte, (opcode v).toNat = v.toNat % 128 ∧
    (isImmediate v = true ↔ v ∈ [0x00#8, 0x02#8, 0x03#8]) ∧
    (hasOpcode v = true ↔ opcode v ∈
      [0x00#8, 0x01#8, 0x02#8, 0x03#8, 0x10#8, 0x11#8, 0x12#8, 0x13#8, 0x20#8, 0x21#8, 0x22#8, 0x23#8, 0x30#8, 0x31#8]) ∧
    (valid (opcode v) .disconnected = true ↔
      opcode v ∈ [0x00#8, 0x01#8, 0x02#8, 0x03#8, 0x10#8, 0x11#8, 0x12#8, 0x13#8]) ∧
    (valid (opcode v) .target = true ↔
      opcode v ∈ [0x00#8, 0x01#8, 0x02#8, 0x03#8, 0x20#8, 0x21#8, 0x22#8, 0x23#8]) ∧
    (valid (opcode v) .initiator = true ↔ opcode v ∈ [0x00#8, 0x01#8, 0x02#8, 0x03#8, 0x30#8, 0x31#8])
end

