-- ==== Sys2Proof/Laws/Decode.lean ====
section
/-! SUPPORT. The fields of a stimulus word and of a command byte, and the decoder on a word put together from its
fields. -/

namespace Sys2Proof

theorem toNat_stimWord (k o : BitVec 4) (d : Byte) :
    (stimWord k o d).toNat = k.toNat * 4096 + o.toNat * 256 + d.toNat := by
  have h₁ := BitVec.toNat_append (k ++ o) d
  have h₂ := BitVec.toNat_append k o
  rw [← Nat.shiftLeft_add_eq_or_of_lt d.isLt, Nat.shiftLeft_eq] at h₁
  rw [← Nat.shiftLeft_add_eq_or_of_lt o.isLt, Nat.shiftLeft_eq] at h₂
  exact h₁.trans (by rw [h₂]; omega)

@[simp] theorem kindField_stimWord (k o : BitVec 4) (d : Byte) : kindField (stimWord k o d) = k := by
  apply BitVec.eq_of_toNat_eq
  simp only [kindField, BitVec.extractLsb'_toNat, toNat_stimWord, Nat.shiftRight_eq_div_pow]
  omega

@[simp] theorem offField_stimWord (k o : BitVec 4) (d : Byte) : offField (stimWord k o d) = o := by
  apply BitVec.eq_of_toNat_eq
  simp only [offField, BitVec.extractLsb'_toNat, toNat_stimWord, Nat.shiftRight_eq_div_pow]
  omega

@[simp] theorem dataField_stimWord (k o : BitVec 4) (d : Byte) : dataField (stimWord k o d) = d := by
  apply BitVec.eq_of_toNat_eq
  simp only [dataField, BitVec.extractLsb'_toNat, toNat_stimWord, Nat.shiftRight_eq_div_pow]
  omega

/-- A word is its three fields. -/
theorem stimWord_fields (w : BitVec 16) : stimWord (kindField w) (offField w) (dataField w) = w := by
  apply BitVec.eq_of_toNat_eq
  simp only [toNat_stimWord, kindField, offField, dataField, BitVec.extractLsb'_toNat, Nat.shiftRight_eq_div_pow]
  omega

@[simp] theorem decode_read (o : BitVec 4) (d : Byte) (n : Nat) :
    decode (.stim (stimWord 0x0 o d) n) = decodeRead o := by
  simp [decode, decodeStim]

@[simp] theorem decode_write (o : BitVec 4) (d : Byte) (n : Nat) :
    decode (.stim (stimWord 0x1 o d) n) = decodeWrite o d := by
  simp [decode, decodeStim]

@[simp] theorem decode_adv (o : BitVec 4) (d : Byte) (n : Nat) : decode (.stim (stimWord 0x8 o d) n) = .ok (.adv n) := by
  simp [decode, decodeStim]

@[simp] theorem decode_hreset (o : BitVec 4) (d : Byte) (n : Nat) : decode (.stim (stimWord 0x9 o d) n) = .ok .hreset := by
  simp [decode, decodeStim]

@[simp] theorem msb_commandByte (c : Byte) (x : Bool) (h : c.msb = false) : (commandByte c x).msb = x := by
  cases x
  · exact h
  · exact (BitVec.msb_or ..).trans (by rw [h]; rfl)

/-- A byte in no row of the opcode map decodes to the row of every other byte. -/
theorem decodeCommand_illegal (v : Byte) (h : hasOpcode v = false) : decodeCommand v = .illegal v := by
  revert v
  decide

/-- What a command byte decodes to is well formed, and encodes back. -/
theorem decodeCommand_sound (v : Byte) :
    (decodeCommand v).wellFormed = true ∧ encode (decodeCommand v) = .cmd v := by
  revert v
  decide

end Sys2Proof
end

