-- ==== Sys2Proof/Laws/State.lean ====
section
/-! SUPPORT. What each named operation does to each field of State: one lemma per field per update, true by rfl, so
that no later proof unfolds a record update. -/

namespace Sys2Proof.Machine

section updateLines
variable (s : State)
@[simp] theorem updateLines_tc : (updateLines s).tc = s.tc := rfl
@[simp] theorem updateLines_busId : (updateLines s).busId = s.busId := rfl
@[simp] theorem updateLines_timeout : (updateLines s).timeout = s.timeout := rfl
@[simp] theorem updateLines_syncPeriod : (updateLines s).syncPeriod = s.syncPeriod := rfl
@[simp] theorem updateLines_syncOffset : (updateLines s).syncOffset = s.syncOffset := rfl
@[simp] theorem updateLines_config : (updateLines s).config = s.config := rfl
@[simp] theorem updateLines_ccf : (updateLines s).ccf = s.ccf := rfl
@[simp] theorem updateLines_ge : (updateLines s).ge = s.ge := rfl
@[simp] theorem updateLines_pe : (updateLines s).pe = s.pe := rfl
@[simp] theorem updateLines_int : (updateLines s).int = s.int := rfl
@[simp] theorem updateLines_irq : (updateLines s).irq = (s.int != 0#5) := rfl
@[simp] theorem updateLines_drq : (updateLines s).drq = s.xferActive := rfl
@[simp] theorem updateLines_cmdq : (updateLines s).cmdq = s.cmdq := rfl
@[simp] theorem updateLines_cstate : (updateLines s).cstate = s.cstate := rfl
@[simp] theorem updateLines_fifo : (updateLines s).fifo = s.fifo := rfl
@[simp] theorem updateLines_mode : (updateLines s).mode = s.mode := rfl
@[simp] theorem updateLines_phase : (updateLines s).phase = s.phase := rfl
@[simp] theorem updateLines_cmdPhase : (updateLines s).cmdPhase = s.cmdPhase := rfl
@[simp] theorem updateLines_pending : (updateLines s).pending = s.pending := rfl
@[simp] theorem updateLines_selTarget : (updateLines s).selTarget = s.selTarget := rfl
@[simp] theorem updateLines_xferActive : (updateLines s).xferActive = s.xferActive := rfl
@[simp] theorem updateLines_xferRemaining : (updateLines s).xferRemaining = s.xferRemaining := rfl
@[simp] theorem updateLines_now : (updateLines s).now = s.now := rfl
@[simp] theorem updateLines_dev : (updateLines s).dev = s.dev := rfl
@[simp] theorem updateLines_units : (updateLines s).units = s.units := rfl
@[simp] theorem updateLines_inbox : (updateLines s).inbox = s.inbox := rfl
@[simp] theorem updateLines_lenIn : (updateLines s).lenIn = s.lenIn := rfl
@[simp] theorem updateLines_byteIn : (updateLines s).byteIn = s.byteIn := rfl
@[simp] theorem updateLines_freeCount : (updateLines s).freeCount = s.freeCount := rfl
@[simp] theorem updateLines_reads : (updateLines s).reads = s.reads := rfl
@[simp] theorem updateLines_edges : (updateLines s).edges = (s.edges ++ lineEdges s) := rfl
@[simp] theorem updateLines_calls : (updateLines s).calls = s.calls := rfl
end updateLines

section setCause
variable (x : Cause) (s : State)
@[simp] theorem setCause_tc : (setCause x s).tc = s.tc := rfl
@[simp] theorem setCause_busId : (setCause x s).busId = s.busId := rfl
@[simp] theorem setCause_timeout : (setCause x s).timeout = s.timeout := rfl
@[simp] theorem setCause_syncPeriod : (setCause x s).syncPeriod = s.syncPeriod := rfl
@[simp] theorem setCause_syncOffset : (setCause x s).syncOffset = s.syncOffset := rfl
@[simp] theorem setCause_config : (setCause x s).config = s.config := rfl
@[simp] theorem setCause_ccf : (setCause x s).ccf = s.ccf := rfl
@[simp] theorem setCause_ge : (setCause x s).ge = s.ge := rfl
@[simp] theorem setCause_pe : (setCause x s).pe = s.pe := rfl
@[simp] theorem setCause_int : (setCause x s).int = s.int ||| causeBit x := rfl
@[simp] theorem setCause_irq : (setCause x s).irq = s.irq := rfl
@[simp] theorem setCause_drq : (setCause x s).drq = s.drq := rfl
@[simp] theorem setCause_cmdq : (setCause x s).cmdq = s.cmdq := rfl
@[simp] theorem setCause_cstate : (setCause x s).cstate = s.cstate := rfl
@[simp] theorem setCause_fifo : (setCause x s).fifo = s.fifo := rfl
@[simp] theorem setCause_mode : (setCause x s).mode = s.mode := rfl
@[simp] theorem setCause_phase : (setCause x s).phase = s.phase := rfl
@[simp] theorem setCause_cmdPhase : (setCause x s).cmdPhase = s.cmdPhase := rfl
@[simp] theorem setCause_pending : (setCause x s).pending = s.pending := rfl
@[simp] theorem setCause_selTarget : (setCause x s).selTarget = s.selTarget := rfl
@[simp] theorem setCause_xferActive : (setCause x s).xferActive = s.xferActive := rfl
@[simp] theorem setCause_xferRemaining : (setCause x s).xferRemaining = s.xferRemaining := rfl
@[simp] theorem setCause_now : (setCause x s).now = s.now := rfl
@[simp] theorem setCause_dev : (setCause x s).dev = s.dev := rfl
@[simp] theorem setCause_units : (setCause x s).units = s.units := rfl
@[simp] theorem setCause_inbox : (setCause x s).inbox = s.inbox := rfl
@[simp] theorem setCause_lenIn : (setCause x s).lenIn = s.lenIn := rfl
@[simp] theorem setCause_byteIn : (setCause x s).byteIn = s.byteIn := rfl
@[simp] theorem setCause_freeCount : (setCause x s).freeCount = s.freeCount := rfl
@[simp] theorem setCause_reads : (setCause x s).reads = s.reads := rfl
@[simp] theorem setCause_edges : (setCause x s).edges = s.edges := rfl
@[simp] theorem setCause_calls : (setCause x s).calls = s.calls := rfl
end setCause

section returnByte
variable (off : Offset) (v : Byte) (s : State)
@[simp] theorem returnByte_tc : (returnByte off v s).tc = s.tc := rfl
@[simp] theorem returnByte_busId : (returnByte off v s).busId = s.busId := rfl
@[simp] theorem returnByte_timeout : (returnByte off v s).timeout = s.timeout := rfl
@[simp] theorem returnByte_syncPeriod : (returnByte off v s).syncPeriod = s.syncPeriod := rfl
@[simp] theorem returnByte_syncOffset : (returnByte off v s).syncOffset = s.syncOffset := rfl
@[simp] theorem returnByte_config : (returnByte off v s).config = s.config := rfl
@[simp] theorem returnByte_ccf : (returnByte off v s).ccf = s.ccf := rfl
@[simp] theorem returnByte_ge : (returnByte off v s).ge = s.ge := rfl
@[simp] theorem returnByte_pe : (returnByte off v s).pe = s.pe := rfl
@[simp] theorem returnByte_int : (returnByte off v s).int = s.int := rfl
@[simp] theorem returnByte_irq : (returnByte off v s).irq = s.irq := rfl
@[simp] theorem returnByte_drq : (returnByte off v s).drq = s.drq := rfl
@[simp] theorem returnByte_cmdq : (returnByte off v s).cmdq = s.cmdq := rfl
@[simp] theorem returnByte_cstate : (returnByte off v s).cstate = s.cstate := rfl
@[simp] theorem returnByte_fifo : (returnByte off v s).fifo = s.fifo := rfl
@[simp] theorem returnByte_mode : (returnByte off v s).mode = s.mode := rfl
@[simp] theorem returnByte_phase : (returnByte off v s).phase = s.phase := rfl
@[simp] theorem returnByte_cmdPhase : (returnByte off v s).cmdPhase = s.cmdPhase := rfl
@[simp] theorem returnByte_pending : (returnByte off v s).pending = s.pending := rfl
@[simp] theorem returnByte_selTarget : (returnByte off v s).selTarget = s.selTarget := rfl
@[simp] theorem returnByte_xferActive : (returnByte off v s).xferActive = s.xferActive := rfl
@[simp] theorem returnByte_xferRemaining : (returnByte off v s).xferRemaining = s.xferRemaining := rfl
@[simp] theorem returnByte_now : (returnByte off v s).now = s.now := rfl
@[simp] theorem returnByte_dev : (returnByte off v s).dev = s.dev := rfl
@[simp] theorem returnByte_units : (returnByte off v s).units = s.units := rfl
@[simp] theorem returnByte_inbox : (returnByte off v s).inbox = s.inbox := rfl
@[simp] theorem returnByte_lenIn : (returnByte off v s).lenIn = s.lenIn := rfl
@[simp] theorem returnByte_byteIn : (returnByte off v s).byteIn = s.byteIn := rfl
@[simp] theorem returnByte_freeCount : (returnByte off v s).freeCount = s.freeCount := rfl
@[simp] theorem returnByte_reads : (returnByte off v s).reads = s.reads ++ [⟨off, v⟩] := rfl
@[simp] theorem returnByte_edges : (returnByte off v s).edges = s.edges := rfl
@[simp] theorem returnByte_calls : (returnByte off v s).calls = s.calls := rfl
end returnByte

section schedule
variable (k : CompletionKind) (d : Nat) (s : State)
@[simp] theorem schedule_tc : (schedule k d s).tc = s.tc := rfl
@[simp] theorem schedule_busId : (schedule k d s).busId = s.busId := rfl
@[simp] theorem schedule_timeout : (schedule k d s).timeout = s.timeout := rfl
@[simp] theorem schedule_syncPeriod : (schedule k d s).syncPeriod = s.syncPeriod := rfl
@[simp] theorem schedule_syncOffset : (schedule k d s).syncOffset = s.syncOffset := rfl
@[simp] theorem schedule_config : (schedule k d s).config = s.config := rfl
@[simp] theorem schedule_ccf : (schedule k d s).ccf = s.ccf := rfl
@[simp] theorem schedule_ge : (schedule k d s).ge = s.ge := rfl
@[simp] theorem schedule_pe : (schedule k d s).pe = s.pe := rfl
@[simp] theorem schedule_int : (schedule k d s).int = s.int := rfl
@[simp] theorem schedule_irq : (schedule k d s).irq = s.irq := rfl
@[simp] theorem schedule_drq : (schedule k d s).drq = s.drq := rfl
@[simp] theorem schedule_cmdq : (schedule k d s).cmdq = s.cmdq := rfl
@[simp] theorem schedule_cstate : (schedule k d s).cstate = s.cstate := rfl
@[simp] theorem schedule_fifo : (schedule k d s).fifo = s.fifo := rfl
@[simp] theorem schedule_mode : (schedule k d s).mode = s.mode := rfl
@[simp] theorem schedule_phase : (schedule k d s).phase = s.phase := rfl
@[simp] theorem schedule_cmdPhase : (schedule k d s).cmdPhase = s.cmdPhase := rfl
@[simp] theorem schedule_pending : (schedule k d s).pending = some ⟨k, s.now + d⟩ := rfl
@[simp] theorem schedule_selTarget : (schedule k d s).selTarget = s.selTarget := rfl
@[simp] theorem schedule_xferActive : (schedule k d s).xferActive = s.xferActive := rfl
@[simp] theorem schedule_xferRemaining : (schedule k d s).xferRemaining = s.xferRemaining := rfl
@[simp] theorem schedule_now : (schedule k d s).now = s.now := rfl
@[simp] theorem schedule_dev : (schedule k d s).dev = s.dev := rfl
@[simp] theorem schedule_units : (schedule k d s).units = s.units := rfl
@[simp] theorem schedule_inbox : (schedule k d s).inbox = s.inbox := rfl
@[simp] theorem schedule_lenIn : (schedule k d s).lenIn = s.lenIn := rfl
@[simp] theorem schedule_byteIn : (schedule k d s).byteIn = s.byteIn := rfl
@[simp] theorem schedule_freeCount : (schedule k d s).freeCount = s.freeCount := rfl
@[simp] theorem schedule_reads : (schedule k d s).reads = s.reads := rfl
@[simp] theorem schedule_edges : (schedule k d s).edges = s.edges := rfl
@[simp] theorem schedule_calls : (schedule k d s).calls = s.calls := rfl
end schedule

section cancel
variable (s : State)
@[simp] theorem cancel_tc : (cancel s).tc = s.tc := rfl
@[simp] theorem cancel_busId : (cancel s).busId = s.busId := rfl
@[simp] theorem cancel_timeout : (cancel s).timeout = s.timeout := rfl
@[simp] theorem cancel_syncPeriod : (cancel s).syncPeriod = s.syncPeriod := rfl
@[simp] theorem cancel_syncOffset : (cancel s).syncOffset = s.syncOffset := rfl
@[simp] theorem cancel_config : (cancel s).config = s.config := rfl
@[simp] theorem cancel_ccf : (cancel s).ccf = s.ccf := rfl
@[simp] theorem cancel_ge : (cancel s).ge = s.ge := rfl
@[simp] theorem cancel_pe : (cancel s).pe = s.pe := rfl
@[simp] theorem cancel_int : (cancel s).int = s.int := rfl
@[simp] theorem cancel_irq : (cancel s).irq = s.irq := rfl
@[simp] theorem cancel_drq : (cancel s).drq = s.drq := rfl
@[simp] theorem cancel_cmdq : (cancel s).cmdq = s.cmdq := rfl
@[simp] theorem cancel_cstate : (cancel s).cstate = s.cstate := rfl
@[simp] theorem cancel_fifo : (cancel s).fifo = s.fifo := rfl
@[simp] theorem cancel_mode : (cancel s).mode = s.mode := rfl
@[simp] theorem cancel_phase : (cancel s).phase = s.phase := rfl
@[simp] theorem cancel_cmdPhase : (cancel s).cmdPhase = s.cmdPhase := rfl
@[simp] theorem cancel_pending : (cancel s).pending = none := rfl
@[simp] theorem cancel_selTarget : (cancel s).selTarget = s.selTarget := rfl
@[simp] theorem cancel_xferActive : (cancel s).xferActive = s.xferActive := rfl
@[simp] theorem cancel_xferRemaining : (cancel s).xferRemaining = s.xferRemaining := rfl
@[simp] theorem cancel_now : (cancel s).now = s.now := rfl
@[simp] theorem cancel_dev : (cancel s).dev = s.dev := rfl
@[simp] theorem cancel_units : (cancel s).units = s.units := rfl
@[simp] theorem cancel_inbox : (cancel s).inbox = s.inbox := rfl
@[simp] theorem cancel_lenIn : (cancel s).lenIn = s.lenIn := rfl
@[simp] theorem cancel_byteIn : (cancel s).byteIn = s.byteIn := rfl
@[simp] theorem cancel_freeCount : (cancel s).freeCount = s.freeCount := rfl
@[simp] theorem cancel_reads : (cancel s).reads = s.reads := rfl
@[simp] theorem cancel_edges : (cancel s).edges = s.edges := rfl
@[simp] theorem cancel_calls : (cancel s).calls = s.calls := rfl
end cancel

section fifoPush
variable (v : Byte) (s : State)
@[simp] theorem fifoPush_tc : (fifoPush v s).tc = s.tc := rfl
@[simp] theorem fifoPush_busId : (fifoPush v s).busId = s.busId := rfl
@[simp] theorem fifoPush_timeout : (fifoPush v s).timeout = s.timeout := rfl
@[simp] theorem fifoPush_syncPeriod : (fifoPush v s).syncPeriod = s.syncPeriod := rfl
@[simp] theorem fifoPush_syncOffset : (fifoPush v s).syncOffset = s.syncOffset := rfl
@[simp] theorem fifoPush_config : (fifoPush v s).config = s.config := rfl
@[simp] theorem fifoPush_ccf : (fifoPush v s).ccf = s.ccf := rfl
@[simp] theorem fifoPush_ge : (fifoPush v s).ge = s.ge := rfl
@[simp] theorem fifoPush_pe : (fifoPush v s).pe = s.pe := rfl
@[simp] theorem fifoPush_int : (fifoPush v s).int = s.int := rfl
@[simp] theorem fifoPush_irq : (fifoPush v s).irq = s.irq := rfl
@[simp] theorem fifoPush_drq : (fifoPush v s).drq = s.drq := rfl
@[simp] theorem fifoPush_cmdq : (fifoPush v s).cmdq = s.cmdq := rfl
@[simp] theorem fifoPush_cstate : (fifoPush v s).cstate = s.cstate := rfl
@[simp] theorem fifoPush_fifo : (fifoPush v s).fifo = (if s.fifo.length < fifoCap then s.fifo ++ [v] else s.fifo) := rfl
@[simp] theorem fifoPush_mode : (fifoPush v s).mode = s.mode := rfl
@[simp] theorem fifoPush_phase : (fifoPush v s).phase = s.phase := rfl
@[simp] theorem fifoPush_cmdPhase : (fifoPush v s).cmdPhase = s.cmdPhase := rfl
@[simp] theorem fifoPush_pending : (fifoPush v s).pending = s.pending := rfl
@[simp] theorem fifoPush_selTarget : (fifoPush v s).selTarget = s.selTarget := rfl
@[simp] theorem fifoPush_xferActive : (fifoPush v s).xferActive = s.xferActive := rfl
@[simp] theorem fifoPush_xferRemaining : (fifoPush v s).xferRemaining = s.xferRemaining := rfl
@[simp] theorem fifoPush_now : (fifoPush v s).now = s.now := rfl
@[simp] theorem fifoPush_dev : (fifoPush v s).dev = s.dev := rfl
@[simp] theorem fifoPush_units : (fifoPush v s).units = s.units := rfl
@[simp] theorem fifoPush_inbox : (fifoPush v s).inbox = s.inbox := rfl
@[simp] theorem fifoPush_lenIn : (fifoPush v s).lenIn = s.lenIn := rfl
@[simp] theorem fifoPush_byteIn : (fifoPush v s).byteIn = s.byteIn := rfl
@[simp] theorem fifoPush_freeCount : (fifoPush v s).freeCount = s.freeCount := rfl
@[simp] theorem fifoPush_reads : (fifoPush v s).reads = s.reads := rfl
@[simp] theorem fifoPush_edges : (fifoPush v s).edges = s.edges := rfl
@[simp] theorem fifoPush_calls : (fifoPush v s).calls = s.calls := rfl
end fifoPush

section fifoDrop
variable (s : State)
@[simp] theorem fifoDrop_tc : (fifoDrop s).tc = s.tc := rfl
@[simp] theorem fifoDrop_busId : (fifoDrop s).busId = s.busId := rfl
@[simp] theorem fifoDrop_timeout : (fifoDrop s).timeout = s.timeout := rfl
@[simp] theorem fifoDrop_syncPeriod : (fifoDrop s).syncPeriod = s.syncPeriod := rfl
@[simp] theorem fifoDrop_syncOffset : (fifoDrop s).syncOffset = s.syncOffset := rfl
@[simp] theorem fifoDrop_config : (fifoDrop s).config = s.config := rfl
@[simp] theorem fifoDrop_ccf : (fifoDrop s).ccf = s.ccf := rfl
@[simp] theorem fifoDrop_ge : (fifoDrop s).ge = s.ge := rfl
@[simp] theorem fifoDrop_pe : (fifoDrop s).pe = s.pe := rfl
@[simp] theorem fifoDrop_int : (fifoDrop s).int = s.int := rfl
@[simp] theorem fifoDrop_irq : (fifoDrop s).irq = s.irq := rfl
@[simp] theorem fifoDrop_drq : (fifoDrop s).drq = s.drq := rfl
@[simp] theorem fifoDrop_cmdq : (fifoDrop s).cmdq = s.cmdq := rfl
@[simp] theorem fifoDrop_cstate : (fifoDrop s).cstate = s.cstate := rfl
@[simp] theorem fifoDrop_fifo : (fifoDrop s).fifo = s.fifo.tail := rfl
@[simp] theorem fifoDrop_mode : (fifoDrop s).mode = s.mode := rfl
@[simp] theorem fifoDrop_phase : (fifoDrop s).phase = s.phase := rfl
@[simp] theorem fifoDrop_cmdPhase : (fifoDrop s).cmdPhase = s.cmdPhase := rfl
@[simp] theorem fifoDrop_pending : (fifoDrop s).pending = s.pending := rfl
@[simp] theorem fifoDrop_selTarget : (fifoDrop s).selTarget = s.selTarget := rfl
@[simp] theorem fifoDrop_xferActive : (fifoDrop s).xferActive = s.xferActive := rfl
@[simp] theorem fifoDrop_xferRemaining : (fifoDrop s).xferRemaining = s.xferRemaining := rfl
@[simp] theorem fifoDrop_now : (fifoDrop s).now = s.now := rfl
@[simp] theorem fifoDrop_dev : (fifoDrop s).dev = s.dev := rfl
@[simp] theorem fifoDrop_units : (fifoDrop s).units = s.units := rfl
@[simp] theorem fifoDrop_inbox : (fifoDrop s).inbox = s.inbox := rfl
@[simp] theorem fifoDrop_lenIn : (fifoDrop s).lenIn = s.lenIn := rfl
@[simp] theorem fifoDrop_byteIn : (fifoDrop s).byteIn = s.byteIn := rfl
@[simp] theorem fifoDrop_freeCount : (fifoDrop s).freeCount = s.freeCount := rfl
@[simp] theorem fifoDrop_reads : (fifoDrop s).reads = s.reads := rfl
@[simp] theorem fifoDrop_edges : (fifoDrop s).edges = s.edges := rfl
@[simp] theorem fifoDrop_calls : (fifoDrop s).calls = s.calls := rfl
end fifoDrop

section fifoFlush
variable (s : State)
@[simp] theorem fifoFlush_tc : (fifoFlush s).tc = s.tc := rfl
@[simp] theorem fifoFlush_busId : (fifoFlush s).busId = s.busId := rfl
@[simp] theorem fifoFlush_timeout : (fifoFlush s).timeout = s.timeout := rfl
@[simp] theorem fifoFlush_syncPeriod : (fifoFlush s).syncPeriod = s.syncPeriod := rfl
@[simp] theorem fifoFlush_syncOffset : (fifoFlush s).syncOffset = s.syncOffset := rfl
@[simp] theorem fifoFlush_config : (fifoFlush s).config = s.config := rfl
@[simp] theorem fifoFlush_ccf : (fifoFlush s).ccf = s.ccf := rfl
@[simp] theorem fifoFlush_ge : (fifoFlush s).ge = s.ge := rfl
@[simp] theorem fifoFlush_pe : (fifoFlush s).pe = s.pe := rfl
@[simp] theorem fifoFlush_int : (fifoFlush s).int = s.int := rfl
@[simp] theorem fifoFlush_irq : (fifoFlush s).irq = s.irq := rfl
@[simp] theorem fifoFlush_drq : (fifoFlush s).drq = s.drq := rfl
@[simp] theorem fifoFlush_cmdq : (fifoFlush s).cmdq = s.cmdq := rfl
@[simp] theorem fifoFlush_cstate : (fifoFlush s).cstate = s.cstate := rfl
@[simp] theorem fifoFlush_fifo : (fifoFlush s).fifo = [] := rfl
@[simp] theorem fifoFlush_mode : (fifoFlush s).mode = s.mode := rfl
@[simp] theorem fifoFlush_phase : (fifoFlush s).phase = s.phase := rfl
@[simp] theorem fifoFlush_cmdPhase : (fifoFlush s).cmdPhase = s.cmdPhase := rfl
@[simp] theorem fifoFlush_pending : (fifoFlush s).pending = s.pending := rfl
@[simp] theorem fifoFlush_selTarget : (fifoFlush s).selTarget = s.selTarget := rfl
@[simp] theorem fifoFlush_xferActive : (fifoFlush s).xferActive = s.xferActive := rfl
@[simp] theorem fifoFlush_xferRemaining : (fifoFlush s).xferRemaining = s.xferRemaining := rfl
@[simp] theorem fifoFlush_now : (fifoFlush s).now = s.now := rfl
@[simp] theorem fifoFlush_dev : (fifoFlush s).dev = s.dev := rfl
@[simp] theorem fifoFlush_units : (fifoFlush s).units = s.units := rfl
@[simp] theorem fifoFlush_inbox : (fifoFlush s).inbox = s.inbox := rfl
@[simp] theorem fifoFlush_lenIn : (fifoFlush s).lenIn = s.lenIn := rfl
@[simp] theorem fifoFlush_byteIn : (fifoFlush s).byteIn = s.byteIn := rfl
@[simp] theorem fifoFlush_freeCount : (fifoFlush s).freeCount = s.freeCount := rfl
@[simp] theorem fifoFlush_reads : (fifoFlush s).reads = s.reads := rfl
@[simp] theorem fifoFlush_edges : (fifoFlush s).edges = s.edges := rfl
@[simp] theorem fifoFlush_calls : (fifoFlush s).calls = s.calls := rfl
end fifoFlush

section callExecute
variable (cdb : List Byte) (s : State)
@[simp] theorem callExecute_tc : (callExecute cdb s).tc = s.tc := rfl
@[simp] theorem callExecute_busId : (callExecute cdb s).busId = s.busId := rfl
@[simp] theorem callExecute_timeout : (callExecute cdb s).timeout = s.timeout := rfl
@[simp] theorem callExecute_syncPeriod : (callExecute cdb s).syncPeriod = s.syncPeriod := rfl
@[simp] theorem callExecute_syncOffset : (callExecute cdb s).syncOffset = s.syncOffset := rfl
@[simp] theorem callExecute_config : (callExecute cdb s).config = s.config := rfl
@[simp] theorem callExecute_ccf : (callExecute cdb s).ccf = s.ccf := rfl
@[simp] theorem callExecute_ge : (callExecute cdb s).ge = s.ge := rfl
@[simp] theorem callExecute_pe : (callExecute cdb s).pe = s.pe := rfl
@[simp] theorem callExecute_int : (callExecute cdb s).int = s.int := rfl
@[simp] theorem callExecute_irq : (callExecute cdb s).irq = s.irq := rfl
@[simp] theorem callExecute_drq : (callExecute cdb s).drq = s.drq := rfl
@[simp] theorem callExecute_cmdq : (callExecute cdb s).cmdq = s.cmdq := rfl
@[simp] theorem callExecute_cstate : (callExecute cdb s).cstate = s.cstate := rfl
@[simp] theorem callExecute_fifo : (callExecute cdb s).fifo = s.fifo := rfl
@[simp] theorem callExecute_mode : (callExecute cdb s).mode = s.mode := rfl
@[simp] theorem callExecute_phase : (callExecute cdb s).phase = s.phase := rfl
@[simp] theorem callExecute_cmdPhase : (callExecute cdb s).cmdPhase = s.cmdPhase := rfl
@[simp] theorem callExecute_pending : (callExecute cdb s).pending = s.pending := rfl
@[simp] theorem callExecute_selTarget : (callExecute cdb s).selTarget = s.selTarget := rfl
@[simp] theorem callExecute_xferActive : (callExecute cdb s).xferActive = s.xferActive := rfl
@[simp] theorem callExecute_xferRemaining : (callExecute cdb s).xferRemaining = nextLength s := rfl
@[simp] theorem callExecute_now : (callExecute cdb s).now = s.now := rfl
@[simp] theorem callExecute_dev : (callExecute cdb s).dev = s.dev := rfl
@[simp] theorem callExecute_units : (callExecute cdb s).units = s.units := rfl
@[simp] theorem callExecute_inbox : (callExecute cdb s).inbox = s.inbox := rfl
@[simp] theorem callExecute_lenIn : (callExecute cdb s).lenIn = s.lenIn.tail := rfl
@[simp] theorem callExecute_byteIn : (callExecute cdb s).byteIn = s.byteIn := rfl
@[simp] theorem callExecute_freeCount : (callExecute cdb s).freeCount = s.freeCount + 1 := rfl
@[simp] theorem callExecute_reads : (callExecute cdb s).reads = s.reads := rfl
@[simp] theorem callExecute_edges : (callExecute cdb s).edges = s.edges := rfl
@[simp] theorem callExecute_calls : (callExecute cdb s).calls = s.calls ++ [.execute s.selTarget cdb] := rfl
end callExecute

section callReadData
variable (s : State)
@[simp] theorem callReadData_tc : (callReadData s).tc = s.tc := rfl
@[simp] theorem callReadData_busId : (callReadData s).busId = s.busId := rfl
@[simp] theorem callReadData_timeout : (callReadData s).timeout = s.timeout := rfl
@[simp] theorem callReadData_syncPeriod : (callReadData s).syncPeriod = s.syncPeriod := rfl
@[simp] theorem callReadData_syncOffset : (callReadData s).syncOffset = s.syncOffset := rfl
@[simp] theorem callReadData_config : (callReadData s).config = s.config := rfl
@[simp] theorem callReadData_ccf : (callReadData s).ccf = s.ccf := rfl
@[simp] theorem callReadData_ge : (callReadData s).ge = s.ge := rfl
@[simp] theorem callReadData_pe : (callReadData s).pe = s.pe := rfl
@[simp] theorem callReadData_int : (callReadData s).int = s.int := rfl
@[simp] theorem callReadData_irq : (callReadData s).irq = s.irq := rfl
@[simp] theorem callReadData_drq : (callReadData s).drq = s.drq := rfl
@[simp] theorem callReadData_cmdq : (callReadData s).cmdq = s.cmdq := rfl
@[simp] theorem callReadData_cstate : (callReadData s).cstate = s.cstate := rfl
@[simp] theorem callReadData_fifo : (callReadData s).fifo = s.fifo := rfl
@[simp] theorem callReadData_mode : (callReadData s).mode = s.mode := rfl
@[simp] theorem callReadData_phase : (callReadData s).phase = s.phase := rfl
@[simp] theorem callReadData_cmdPhase : (callReadData s).cmdPhase = s.cmdPhase := rfl
@[simp] theorem callReadData_pending : (callReadData s).pending = s.pending := rfl
@[simp] theorem callReadData_selTarget : (callReadData s).selTarget = s.selTarget := rfl
@[simp] theorem callReadData_xferActive : (callReadData s).xferActive = s.xferActive := rfl
@[simp] theorem callReadData_xferRemaining : (callReadData s).xferRemaining = s.xferRemaining - 1 := rfl
@[simp] theorem callReadData_now : (callReadData s).now = s.now := rfl
@[simp] theorem callReadData_dev : (callReadData s).dev = s.dev := rfl
@[simp] theorem callReadData_units : (callReadData s).units = s.units := rfl
@[simp] theorem callReadData_inbox : (callReadData s).inbox = s.inbox := rfl
@[simp] theorem callReadData_lenIn : (callReadData s).lenIn = s.lenIn := rfl
@[simp] theorem callReadData_byteIn : (callReadData s).byteIn = s.byteIn.tail := rfl
@[simp] theorem callReadData_freeCount : (callReadData s).freeCount = s.freeCount + 1 := rfl
@[simp] theorem callReadData_reads : (callReadData s).reads = s.reads := rfl
@[simp] theorem callReadData_edges : (callReadData s).edges = s.edges := rfl
@[simp] theorem callReadData_calls : (callReadData s).calls = s.calls ++ [.readData s.selTarget] := rfl
end callReadData

section callWriteData
variable (v : Byte) (s : State)
@[simp] theorem callWriteData_tc : (callWriteData v s).tc = s.tc := rfl
@[simp] theorem callWriteData_busId : (callWriteData v s).busId = s.busId := rfl
@[simp] theorem callWriteData_timeout : (callWriteData v s).timeout = s.timeout := rfl
@[simp] theorem callWriteData_syncPeriod : (callWriteData v s).syncPeriod = s.syncPeriod := rfl
@[simp] theorem callWriteData_syncOffset : (callWriteData v s).syncOffset = s.syncOffset := rfl
@[simp] theorem callWriteData_config : (callWriteData v s).config = s.config := rfl
@[simp] theorem callWriteData_ccf : (callWriteData v s).ccf = s.ccf := rfl
@[simp] theorem callWriteData_ge : (callWriteData v s).ge = s.ge := rfl
@[simp] theorem callWriteData_pe : (callWriteData v s).pe = s.pe := rfl
@[simp] theorem callWriteData_int : (callWriteData v s).int = s.int := rfl
@[simp] theorem callWriteData_irq : (callWriteData v s).irq = s.irq := rfl
@[simp] theorem callWriteData_drq : (callWriteData v s).drq = s.drq := rfl
@[simp] theorem callWriteData_cmdq : (callWriteData v s).cmdq = s.cmdq := rfl
@[simp] theorem callWriteData_cstate : (callWriteData v s).cstate = s.cstate := rfl
@[simp] theorem callWriteData_fifo : (callWriteData v s).fifo = s.fifo := rfl
@[simp] theorem callWriteData_mode : (callWriteData v s).mode = s.mode := rfl
@[simp] theorem callWriteData_phase : (callWriteData v s).phase = s.phase := rfl
@[simp] theorem callWriteData_cmdPhase : (callWriteData v s).cmdPhase = s.cmdPhase := rfl
@[simp] theorem callWriteData_pending : (callWriteData v s).pending = s.pending := rfl
@[simp] theorem callWriteData_selTarget : (callWriteData v s).selTarget = s.selTarget := rfl
@[simp] theorem callWriteData_xferActive : (callWriteData v s).xferActive = s.xferActive := rfl
@[simp] theorem callWriteData_xferRemaining : (callWriteData v s).xferRemaining = s.xferRemaining - 1 := rfl
@[simp] theorem callWriteData_now : (callWriteData v s).now = s.now := rfl
@[simp] theorem callWriteData_dev : (callWriteData v s).dev = s.dev := rfl
@[simp] theorem callWriteData_units : (callWriteData v s).units = s.units := rfl
@[simp] theorem callWriteData_inbox : (callWriteData v s).inbox = s.inbox := rfl
@[simp] theorem callWriteData_lenIn : (callWriteData v s).lenIn = s.lenIn := rfl
@[simp] theorem callWriteData_byteIn : (callWriteData v s).byteIn = s.byteIn := rfl
@[simp] theorem callWriteData_freeCount : (callWriteData v s).freeCount = s.freeCount := rfl
@[simp] theorem callWriteData_reads : (callWriteData v s).reads = s.reads := rfl
@[simp] theorem callWriteData_edges : (callWriteData v s).edges = s.edges := rfl
@[simp] theorem callWriteData_calls : (callWriteData v s).calls = s.calls ++ [.writeData s.selTarget v] := rfl
end callWriteData

section softReset
variable (s : State)
@[simp] theorem softReset_tc : (softReset s).tc = s.tc := rfl
@[simp] theorem softReset_busId : (softReset s).busId = s.busId := rfl
@[simp] theorem softReset_timeout : (softReset s).timeout = s.timeout := rfl
@[simp] theorem softReset_syncPeriod : (softReset s).syncPeriod = s.syncPeriod := rfl
@[simp] theorem softReset_syncOffset : (softReset s).syncOffset = s.syncOffset := rfl
@[simp] theorem softReset_config : (softReset s).config = s.config := rfl
@[simp] theorem softReset_ccf : (softReset s).ccf = s.ccf := rfl
@[simp] theorem softReset_ge : (softReset s).ge = false := rfl
@[simp] theorem softReset_pe : (softReset s).pe = s.pe := rfl
@[simp] theorem softReset_int : (softReset s).int = s.int := rfl
@[simp] theorem softReset_irq : (softReset s).irq = s.irq := rfl
@[simp] theorem softReset_drq : (softReset s).drq = s.drq := rfl
@[simp] theorem softReset_cmdq : (softReset s).cmdq = [] := rfl
@[simp] theorem softReset_cstate : (softReset s).cstate = .idle := rfl
@[simp] theorem softReset_fifo : (softReset s).fifo = s.fifo := rfl
@[simp] theorem softReset_mode : (softReset s).mode = .disconnected := rfl
@[simp] theorem softReset_phase : (softReset s).phase = .free := rfl
@[simp] theorem softReset_cmdPhase : (softReset s).cmdPhase = 0x00#8 := rfl
@[simp] theorem softReset_pending : (softReset s).pending = none := rfl
@[simp] theorem softReset_selTarget : (softReset s).selTarget = s.selTarget := rfl
@[simp] theorem softReset_xferActive : (softReset s).xferActive = false := rfl
@[simp] theorem softReset_xferRemaining : (softReset s).xferRemaining = 0 := rfl
@[simp] theorem softReset_now : (softReset s).now = s.now := rfl
@[simp] theorem softReset_dev : (softReset s).dev = s.dev := rfl
@[simp] theorem softReset_units : (softReset s).units = s.units := rfl
@[simp] theorem softReset_inbox : (softReset s).inbox = s.inbox := rfl
@[simp] theorem softReset_lenIn : (softReset s).lenIn = s.lenIn := rfl
@[simp] theorem softReset_byteIn : (softReset s).byteIn = s.byteIn := rfl
@[simp] theorem softReset_freeCount : (softReset s).freeCount = s.freeCount := rfl
@[simp] theorem softReset_reads : (softReset s).reads = s.reads := rfl
@[simp] theorem softReset_edges : (softReset s).edges = s.edges := rfl
@[simp] theorem softReset_calls : (softReset s).calls = s.calls := rfl
end softReset

section fullReset
variable (s : State)
@[simp] theorem fullReset_tc : (fullReset s).tc = 0x0000#16 := rfl
@[simp] theorem fullReset_busId : (fullReset s).busId = 0x00#8 := rfl
@[simp] theorem fullReset_timeout : (fullReset s).timeout = 0x00#8 := rfl
@[simp] theorem fullReset_syncPeriod : (fullReset s).syncPeriod = 0x00#8 := rfl
@[simp] theorem fullReset_syncOffset : (fullReset s).syncOffset = 0x00#8 := rfl
@[simp] theorem fullReset_config : (fullReset s).config = 0x00#8 := rfl
@[simp] theorem fullReset_ccf : (fullReset s).ccf = 0x00#8 := rfl
@[simp] theorem fullReset_ge : (fullReset s).ge = false := rfl
@[simp] theorem fullReset_pe : (fullReset s).pe = false := rfl
@[simp] theorem fullReset_int : (fullReset s).int = 0b00000#5 := rfl
@[simp] theorem fullReset_irq : (fullReset s).irq = s.irq := rfl
@[simp] theorem fullReset_drq : (fullReset s).drq = s.drq := rfl
@[simp] theorem fullReset_cmdq : (fullReset s).cmdq = [] := rfl
@[simp] theorem fullReset_cstate : (fullReset s).cstate = .idle := rfl
@[simp] theorem fullReset_fifo : (fullReset s).fifo = [] := rfl
@[simp] theorem fullReset_mode : (fullReset s).mode = .disconnected := rfl
@[simp] theorem fullReset_phase : (fullReset s).phase = .free := rfl
@[simp] theorem fullReset_cmdPhase : (fullReset s).cmdPhase = 0x00#8 := rfl
@[simp] theorem fullReset_pending : (fullReset s).pending = none := rfl
@[simp] theorem fullReset_selTarget : (fullReset s).selTarget = 0 := rfl
@[simp] theorem fullReset_xferActive : (fullReset s).xferActive = false := rfl
@[simp] theorem fullReset_xferRemaining : (fullReset s).xferRemaining = 0 := rfl
@[simp] theorem fullReset_now : (fullReset s).now = s.now := rfl
@[simp] theorem fullReset_dev : (fullReset s).dev = s.dev := rfl
@[simp] theorem fullReset_units : (fullReset s).units = s.units := rfl
@[simp] theorem fullReset_inbox : (fullReset s).inbox = s.inbox := rfl
@[simp] theorem fullReset_lenIn : (fullReset s).lenIn = s.lenIn := rfl
@[simp] theorem fullReset_byteIn : (fullReset s).byteIn = s.byteIn := rfl
@[simp] theorem fullReset_freeCount : (fullReset s).freeCount = s.freeCount := rfl
@[simp] theorem fullReset_reads : (fullReset s).reads = s.reads := rfl
@[simp] theorem fullReset_edges : (fullReset s).edges = s.edges := rfl
@[simp] theorem fullReset_calls : (fullReset s).calls = s.calls := rfl
end fullReset

section defer
variable (s : State)
@[simp] theorem defer_tc : (defer s).tc = s.tc := rfl
@[simp] theorem defer_busId : (defer s).busId = s.busId := rfl
@[simp] theorem defer_timeout : (defer s).timeout = s.timeout := rfl
@[simp] theorem defer_syncPeriod : (defer s).syncPeriod = s.syncPeriod := rfl
@[simp] theorem defer_syncOffset : (defer s).syncOffset = s.syncOffset := rfl
@[simp] theorem defer_config : (defer s).config = s.config := rfl
@[simp] theorem defer_ccf : (defer s).ccf = s.ccf := rfl
@[simp] theorem defer_ge : (defer s).ge = s.ge := rfl
@[simp] theorem defer_pe : (defer s).pe = s.pe := rfl
@[simp] theorem defer_int : (defer s).int = s.int := rfl
@[simp] theorem defer_irq : (defer s).irq = s.irq := rfl
@[simp] theorem defer_drq : (defer s).drq = s.drq := rfl
@[simp] theorem defer_cmdq : (defer s).cmdq = s.cmdq := rfl
@[simp] theorem defer_cstate : (defer s).cstate = .deferred := rfl
@[simp] theorem defer_fifo : (defer s).fifo = s.fifo := rfl
@[simp] theorem defer_mode : (defer s).mode = s.mode := rfl
@[simp] theorem defer_phase : (defer s).phase = s.phase := rfl
@[simp] theorem defer_cmdPhase : (defer s).cmdPhase = s.cmdPhase := rfl
@[simp] theorem defer_pending : (defer s).pending = s.pending := rfl
@[simp] theorem defer_selTarget : (defer s).selTarget = s.selTarget := rfl
@[simp] theorem defer_xferActive : (defer s).xferActive = s.xferActive := rfl
@[simp] theorem defer_xferRemaining : (defer s).xferRemaining = s.xferRemaining := rfl
@[simp] theorem defer_now : (defer s).now = s.now := rfl
@[simp] theorem defer_dev : (defer s).dev = s.dev := rfl
@[simp] theorem defer_units : (defer s).units = s.units := rfl
@[simp] theorem defer_inbox : (defer s).inbox = s.inbox := rfl
@[simp] theorem defer_lenIn : (defer s).lenIn = s.lenIn := rfl
@[simp] theorem defer_byteIn : (defer s).byteIn = s.byteIn := rfl
@[simp] theorem defer_freeCount : (defer s).freeCount = s.freeCount := rfl
@[simp] theorem defer_reads : (defer s).reads = s.reads := rfl
@[simp] theorem defer_edges : (defer s).edges = s.edges := rfl
@[simp] theorem defer_calls : (defer s).calls = s.calls := rfl
end defer

section selectLatch
variable (s : State)
@[simp] theorem selectLatch_tc : (selectLatch s).tc = s.tc := rfl
@[simp] theorem selectLatch_busId : (selectLatch s).busId = s.busId := rfl
@[simp] theorem selectLatch_timeout : (selectLatch s).timeout = s.timeout := rfl
@[simp] theorem selectLatch_syncPeriod : (selectLatch s).syncPeriod = s.syncPeriod := rfl
@[simp] theorem selectLatch_syncOffset : (selectLatch s).syncOffset = s.syncOffset := rfl
@[simp] theorem selectLatch_config : (selectLatch s).config = s.config := rfl
@[simp] theorem selectLatch_ccf : (selectLatch s).ccf = s.ccf := rfl
@[simp] theorem selectLatch_ge : (selectLatch s).ge = s.ge := rfl
@[simp] theorem selectLatch_pe : (selectLatch s).pe = s.pe := rfl
@[simp] theorem selectLatch_int : (selectLatch s).int = s.int := rfl
@[simp] theorem selectLatch_irq : (selectLatch s).irq = s.irq := rfl
@[simp] theorem selectLatch_drq : (selectLatch s).drq = s.drq := rfl
@[simp] theorem selectLatch_cmdq : (selectLatch s).cmdq = s.cmdq := rfl
@[simp] theorem selectLatch_cstate : (selectLatch s).cstate = .executing := rfl
@[simp] theorem selectLatch_fifo : (selectLatch s).fifo = s.fifo := rfl
@[simp] theorem selectLatch_mode : (selectLatch s).mode = s.mode := rfl
@[simp] theorem selectLatch_phase : (selectLatch s).phase = .selection := rfl
@[simp] theorem selectLatch_cmdPhase : (selectLatch s).cmdPhase = 0x00#8 := rfl
@[simp] theorem selectLatch_pending : (selectLatch s).pending = some ⟨.sel, s.now + selDelay s.units s.timeout s.ccf⟩ := rfl
@[simp] theorem selectLatch_selTarget : (selectLatch s).selTarget = targetOf s.busId := rfl
@[simp] theorem selectLatch_xferActive : (selectLatch s).xferActive = s.xferActive := rfl
@[simp] theorem selectLatch_xferRemaining : (selectLatch s).xferRemaining = s.xferRemaining := rfl
@[simp] theorem selectLatch_now : (selectLatch s).now = s.now := rfl
@[simp] theorem selectLatch_dev : (selectLatch s).dev = s.dev := rfl
@[simp] theorem selectLatch_units : (selectLatch s).units = s.units := rfl
@[simp] theorem selectLatch_inbox : (selectLatch s).inbox = s.inbox := rfl
@[simp] theorem selectLatch_lenIn : (selectLatch s).lenIn = s.lenIn := rfl
@[simp] theorem selectLatch_byteIn : (selectLatch s).byteIn = s.byteIn := rfl
@[simp] theorem selectLatch_freeCount : (selectLatch s).freeCount = s.freeCount := rfl
@[simp] theorem selectLatch_reads : (selectLatch s).reads = s.reads := rfl
@[simp] theorem selectLatch_edges : (selectLatch s).edges = s.edges := rfl
@[simp] theorem selectLatch_calls : (selectLatch s).calls = s.calls := rfl
end selectLatch

section selectPopulated
variable (c : Byte) (s : State)
@[simp] theorem selectPopulated_tc : (selectPopulated c s).tc = s.tc := rfl
@[simp] theorem selectPopulated_busId : (selectPopulated c s).busId = s.busId := rfl
@[simp] theorem selectPopulated_timeout : (selectPopulated c s).timeout = s.timeout := rfl
@[simp] theorem selectPopulated_syncPeriod : (selectPopulated c s).syncPeriod = s.syncPeriod := rfl
@[simp] theorem selectPopulated_syncOffset : (selectPopulated c s).syncOffset = s.syncOffset := rfl
@[simp] theorem selectPopulated_config : (selectPopulated c s).config = s.config := rfl
@[simp] theorem selectPopulated_ccf : (selectPopulated c s).ccf = s.ccf := rfl
@[simp] theorem selectPopulated_ge : (selectPopulated c s).ge = s.ge := rfl
@[simp] theorem selectPopulated_pe : (selectPopulated c s).pe = s.pe := rfl
@[simp] theorem selectPopulated_int : (selectPopulated c s).int = s.int := rfl
@[simp] theorem selectPopulated_irq : (selectPopulated c s).irq = s.irq := rfl
@[simp] theorem selectPopulated_drq : (selectPopulated c s).drq = s.drq := rfl
@[simp] theorem selectPopulated_cmdq : (selectPopulated c s).cmdq = s.cmdq := rfl
@[simp] theorem selectPopulated_cstate : (selectPopulated c s).cstate = s.cstate := rfl
@[simp] theorem selectPopulated_fifo : (selectPopulated c s).fifo = [] := rfl
@[simp] theorem selectPopulated_mode : (selectPopulated c s).mode = s.mode := rfl
@[simp] theorem selectPopulated_phase : (selectPopulated c s).phase = .command := rfl
@[simp] theorem selectPopulated_cmdPhase : (selectPopulated c s).cmdPhase = s.cmdPhase := rfl
@[simp] theorem selectPopulated_pending : (selectPopulated c s).pending = some ⟨.cc, s.now + ccDelay s.units s.ccf⟩ := rfl
@[simp] theorem selectPopulated_selTarget : (selectPopulated c s).selTarget = s.selTarget := rfl
@[simp] theorem selectPopulated_xferActive : (selectPopulated c s).xferActive = s.xferActive := rfl
@[simp] theorem selectPopulated_xferRemaining : (selectPopulated c s).xferRemaining = nextLength s := rfl
@[simp] theorem selectPopulated_now : (selectPopulated c s).now = s.now := rfl
@[simp] theorem selectPopulated_dev : (selectPopulated c s).dev = s.dev := rfl
@[simp] theorem selectPopulated_units : (selectPopulated c s).units = s.units := rfl
@[simp] theorem selectPopulated_inbox : (selectPopulated c s).inbox = s.inbox := rfl
@[simp] theorem selectPopulated_lenIn : (selectPopulated c s).lenIn = s.lenIn.tail := rfl
@[simp] theorem selectPopulated_byteIn : (selectPopulated c s).byteIn = s.byteIn := rfl
@[simp] theorem selectPopulated_freeCount : (selectPopulated c s).freeCount = s.freeCount + 1 := rfl
@[simp] theorem selectPopulated_reads : (selectPopulated c s).reads = s.reads := rfl
@[simp] theorem selectPopulated_edges : (selectPopulated c s).edges = s.edges := rfl
@[simp] theorem selectPopulated_calls : (selectPopulated c s).calls = s.calls ++ [.execute s.selTarget (cdbOf c s.fifo)] := rfl
end selectPopulated

section targetStart
variable (k : Nat) (s : State)
@[simp] theorem targetStart_tc : (targetStart k s).tc = s.tc := rfl
@[simp] theorem targetStart_busId : (targetStart k s).busId = s.busId := rfl
@[simp] theorem targetStart_timeout : (targetStart k s).timeout = s.timeout := rfl
@[simp] theorem targetStart_syncPeriod : (targetStart k s).syncPeriod = s.syncPeriod := rfl
@[simp] theorem targetStart_syncOffset : (targetStart k s).syncOffset = s.syncOffset := rfl
@[simp] theorem targetStart_config : (targetStart k s).config = s.config := rfl
@[simp] theorem targetStart_ccf : (targetStart k s).ccf = s.ccf := rfl
@[simp] theorem targetStart_ge : (targetStart k s).ge = s.ge := rfl
@[simp] theorem targetStart_pe : (targetStart k s).pe = s.pe := rfl
@[simp] theorem targetStart_int : (targetStart k s).int = s.int := rfl
@[simp] theorem targetStart_irq : (targetStart k s).irq = s.irq := rfl
@[simp] theorem targetStart_drq : (targetStart k s).drq = s.drq := rfl
@[simp] theorem targetStart_cmdq : (targetStart k s).cmdq = s.cmdq := rfl
@[simp] theorem targetStart_cstate : (targetStart k s).cstate = .executing := rfl
@[simp] theorem targetStart_fifo : (targetStart k s).fifo = s.fifo.drop k := rfl
@[simp] theorem targetStart_mode : (targetStart k s).mode = s.mode := rfl
@[simp] theorem targetStart_phase : (targetStart k s).phase = s.phase := rfl
@[simp] theorem targetStart_cmdPhase : (targetStart k s).cmdPhase = s.cmdPhase := rfl
@[simp] theorem targetStart_pending : (targetStart k s).pending = some ⟨.cc, s.now + ccDelay s.units s.ccf⟩ := rfl
@[simp] theorem targetStart_selTarget : (targetStart k s).selTarget = s.selTarget := rfl
@[simp] theorem targetStart_xferActive : (targetStart k s).xferActive = s.xferActive := rfl
@[simp] theorem targetStart_xferRemaining : (targetStart k s).xferRemaining = s.xferRemaining := rfl
@[simp] theorem targetStart_now : (targetStart k s).now = s.now := rfl
@[simp] theorem targetStart_dev : (targetStart k s).dev = s.dev := rfl
@[simp] theorem targetStart_units : (targetStart k s).units = s.units := rfl
@[simp] theorem targetStart_inbox : (targetStart k s).inbox = s.inbox := rfl
@[simp] theorem targetStart_lenIn : (targetStart k s).lenIn = s.lenIn := rfl
@[simp] theorem targetStart_byteIn : (targetStart k s).byteIn = s.byteIn := rfl
@[simp] theorem targetStart_freeCount : (targetStart k s).freeCount = s.freeCount := rfl
@[simp] theorem targetStart_reads : (targetStart k s).reads = s.reads := rfl
@[simp] theorem targetStart_edges : (targetStart k s).edges = s.edges := rfl
@[simp] theorem targetStart_calls : (targetStart k s).calls = s.calls := rfl
end targetStart

section ccSelect
variable (c : Byte) (s : State)
@[simp] theorem ccSelect_tc : (ccSelect c s).tc = s.tc := rfl
@[simp] theorem ccSelect_busId : (ccSelect c s).busId = s.busId := rfl
@[simp] theorem ccSelect_timeout : (ccSelect c s).timeout = s.timeout := rfl
@[simp] theorem ccSelect_syncPeriod : (ccSelect c s).syncPeriod = s.syncPeriod := rfl
@[simp] theorem ccSelect_syncOffset : (ccSelect c s).syncOffset = s.syncOffset := rfl
@[simp] theorem ccSelect_config : (ccSelect c s).config = s.config := rfl
@[simp] theorem ccSelect_ccf : (ccSelect c s).ccf = s.ccf := rfl
@[simp] theorem ccSelect_ge : (ccSelect c s).ge = s.ge := rfl
@[simp] theorem ccSelect_pe : (ccSelect c s).pe = s.pe := rfl
@[simp] theorem ccSelect_int : (ccSelect c s).int = s.int := rfl
@[simp] theorem ccSelect_irq : (ccSelect c s).irq = s.irq := rfl
@[simp] theorem ccSelect_drq : (ccSelect c s).drq = s.drq := rfl
@[simp] theorem ccSelect_cmdq : (ccSelect c s).cmdq = s.cmdq := rfl
@[simp] theorem ccSelect_cstate : (ccSelect c s).cstate = s.cstate := rfl
@[simp] theorem ccSelect_fifo : (ccSelect c s).fifo = s.fifo := rfl
@[simp] theorem ccSelect_mode : (ccSelect c s).mode = .initiator := rfl
@[simp] theorem ccSelect_phase : (ccSelect c s).phase = (if 0 < s.xferRemaining then .data else .status) := rfl
@[simp] theorem ccSelect_cmdPhase : (ccSelect c s).cmdPhase = (if xferFlag c then 0x60#8 else 0x10#8) := rfl
@[simp] theorem ccSelect_pending : (ccSelect c s).pending = s.pending := rfl
@[simp] theorem ccSelect_selTarget : (ccSelect c s).selTarget = s.selTarget := rfl
@[simp] theorem ccSelect_xferActive : (ccSelect c s).xferActive = (s.xferActive || (xferFlag c && decide (0 < s.xferRemaining))) := rfl
@[simp] theorem ccSelect_xferRemaining : (ccSelect c s).xferRemaining = s.xferRemaining := rfl
@[simp] theorem ccSelect_now : (ccSelect c s).now = s.now := rfl
@[simp] theorem ccSelect_dev : (ccSelect c s).dev = s.dev := rfl
@[simp] theorem ccSelect_units : (ccSelect c s).units = s.units := rfl
@[simp] theorem ccSelect_inbox : (ccSelect c s).inbox = s.inbox := rfl
@[simp] theorem ccSelect_lenIn : (ccSelect c s).lenIn = s.lenIn := rfl
@[simp] theorem ccSelect_byteIn : (ccSelect c s).byteIn = s.byteIn := rfl
@[simp] theorem ccSelect_freeCount : (ccSelect c s).freeCount = s.freeCount := rfl
@[simp] theorem ccSelect_reads : (ccSelect c s).reads = s.reads := rfl
@[simp] theorem ccSelect_edges : (ccSelect c s).edges = s.edges := rfl
@[simp] theorem ccSelect_calls : (ccSelect c s).calls = s.calls := rfl
end ccSelect

section ccOther
variable (c : Byte) (s : State)
@[simp] theorem ccOther_tc : (ccOther c s).tc = s.tc := rfl
@[simp] theorem ccOther_busId : (ccOther c s).busId = s.busId := rfl
@[simp] theorem ccOther_timeout : (ccOther c s).timeout = s.timeout := rfl
@[simp] theorem ccOther_syncPeriod : (ccOther c s).syncPeriod = s.syncPeriod := rfl
@[simp] theorem ccOther_syncOffset : (ccOther c s).syncOffset = s.syncOffset := rfl
@[simp] theorem ccOther_config : (ccOther c s).config = s.config := rfl
@[simp] theorem ccOther_ccf : (ccOther c s).ccf = s.ccf := rfl
@[simp] theorem ccOther_ge : (ccOther c s).ge = s.ge := rfl
@[simp] theorem ccOther_pe : (ccOther c s).pe = s.pe := rfl
@[simp] theorem ccOther_int : (ccOther c s).int = s.int := rfl
@[simp] theorem ccOther_irq : (ccOther c s).irq = s.irq := rfl
@[simp] theorem ccOther_drq : (ccOther c s).drq = s.drq := rfl
@[simp] theorem ccOther_cmdq : (ccOther c s).cmdq = s.cmdq := rfl
@[simp] theorem ccOther_cstate : (ccOther c s).cstate = s.cstate := rfl
@[simp] theorem ccOther_fifo : (ccOther c s).fifo = s.fifo := rfl
@[simp] theorem ccOther_mode : (ccOther c s).mode = s.mode := rfl
@[simp] theorem ccOther_phase : (ccOther c s).phase = ccOtherPhase c s.phase := rfl
@[simp] theorem ccOther_cmdPhase : (ccOther c s).cmdPhase = s.cmdPhase := rfl
@[simp] theorem ccOther_pending : (ccOther c s).pending = s.pending := rfl
@[simp] theorem ccOther_selTarget : (ccOther c s).selTarget = s.selTarget := rfl
@[simp] theorem ccOther_xferActive : (ccOther c s).xferActive = s.xferActive := rfl
@[simp] theorem ccOther_xferRemaining : (ccOther c s).xferRemaining = s.xferRemaining := rfl
@[simp] theorem ccOther_now : (ccOther c s).now = s.now := rfl
@[simp] theorem ccOther_dev : (ccOther c s).dev = s.dev := rfl
@[simp] theorem ccOther_units : (ccOther c s).units = s.units := rfl
@[simp] theorem ccOther_inbox : (ccOther c s).inbox = s.inbox := rfl
@[simp] theorem ccOther_lenIn : (ccOther c s).lenIn = s.lenIn := rfl
@[simp] theorem ccOther_byteIn : (ccOther c s).byteIn = s.byteIn := rfl
@[simp] theorem ccOther_freeCount : (ccOther c s).freeCount = s.freeCount := rfl
@[simp] theorem ccOther_reads : (ccOther c s).reads = s.reads := rfl
@[simp] theorem ccOther_edges : (ccOther c s).edges = s.edges := rfl
@[simp] theorem ccOther_calls : (ccOther c s).calls = s.calls := rfl
end ccOther

section tick
variable (s : State)
@[simp] theorem tick_tc : (tick s).tc = s.tc := rfl
@[simp] theorem tick_busId : (tick s).busId = s.busId := rfl
@[simp] theorem tick_timeout : (tick s).timeout = s.timeout := rfl
@[simp] theorem tick_syncPeriod : (tick s).syncPeriod = s.syncPeriod := rfl
@[simp] theorem tick_syncOffset : (tick s).syncOffset = s.syncOffset := rfl
@[simp] theorem tick_config : (tick s).config = s.config := rfl
@[simp] theorem tick_ccf : (tick s).ccf = s.ccf := rfl
@[simp] theorem tick_ge : (tick s).ge = s.ge := rfl
@[simp] theorem tick_pe : (tick s).pe = s.pe := rfl
@[simp] theorem tick_int : (tick s).int = s.int := rfl
@[simp] theorem tick_irq : (tick s).irq = s.irq := rfl
@[simp] theorem tick_drq : (tick s).drq = s.drq := rfl
@[simp] theorem tick_cmdq : (tick s).cmdq = s.cmdq := rfl
@[simp] theorem tick_cstate : (tick s).cstate = s.cstate := rfl
@[simp] theorem tick_fifo : (tick s).fifo = s.fifo := rfl
@[simp] theorem tick_mode : (tick s).mode = s.mode := rfl
@[simp] theorem tick_phase : (tick s).phase = s.phase := rfl
@[simp] theorem tick_cmdPhase : (tick s).cmdPhase = s.cmdPhase := rfl
@[simp] theorem tick_pending : (tick s).pending = s.pending := rfl
@[simp] theorem tick_selTarget : (tick s).selTarget = s.selTarget := rfl
@[simp] theorem tick_xferActive : (tick s).xferActive = s.xferActive := rfl
@[simp] theorem tick_xferRemaining : (tick s).xferRemaining = s.xferRemaining := rfl
@[simp] theorem tick_now : (tick s).now = s.now + 1 := rfl
@[simp] theorem tick_dev : (tick s).dev = s.dev := rfl
@[simp] theorem tick_units : (tick s).units = s.units := rfl
@[simp] theorem tick_inbox : (tick s).inbox = s.inbox := rfl
@[simp] theorem tick_lenIn : (tick s).lenIn = s.lenIn := rfl
@[simp] theorem tick_byteIn : (tick s).byteIn = s.byteIn := rfl
@[simp] theorem tick_freeCount : (tick s).freeCount = s.freeCount := rfl
@[simp] theorem tick_reads : (tick s).reads = s.reads := rfl
@[simp] theorem tick_edges : (tick s).edges = s.edges := rfl
@[simp] theorem tick_calls : (tick s).calls = s.calls := rfl
end tick

end Sys2Proof.Machine
end

