-- ==== Sys2Proof/Laws/Ops.lean ====
section
/-! SUPPORT. What each shared operation can do, said once: the lines, the interrupt causes, the command in slot 0, the
validity of a command byte, dispatch, submission, the data path and the timer. -/

namespace Sys2Proof.Machine

/-! ## The lines -/

theorem lineEdges_eq_nil {s : State} (h : LinesAgree s) : lineEdges s = [] := by
  simp [lineEdges, h.1, h.2]

/-- `update_lines()` on lines that agree already changes nothing. -/
theorem updateLines_eq_self {s : State} (h : LinesAgree s) : updateLines s = s := by
  have set_self : ∀ i d es, i = s.irq → d = s.drq → es = s.edges →
      ({ s with irq := i, drq := d, edges := es } : State) = s := by
    rintro _ _ _ rfl rfl rfl
    rfl
  exact set_self _ _ _ h.1.symm h.2.symm (by rw [lineEdges_eq_nil h, List.append_nil])

theorem linesAgree_updateLines (s : State) : LinesAgree (updateLines s) := ⟨rfl, rfl⟩

@[simp] theorem causeBit_or_ne_zero (i : BitVec 5) (x : Cause) : (i ||| causeBit x != 0#5) = true := by
  cases x <;> simp only [causeBit, bne_iff_ne, ne_eq] <;> revert i <;> decide

/-- Raising a cause raises IRQ, with an edge when the line was low (R306, R311). -/
theorem updateLines_of_cause {s : State} {x : Cause} {i : BitVec 5} (hi : s.int = i ||| causeBit x) :
    updateLines s = { s with
      irq := true, drq := s.xferActive
      edges := s.edges ++ (irqRise s ++ (if s.xferActive = s.drq then [] else [⟨.drq, s.xferActive, s.now⟩])) } := by
  have h : (s.int != 0#5) = true := by rw [hi]; exact causeBit_or_ne_zero i x
  unfold updateLines lineEdges irqRise
  rw [h]
  cases s.irq <;> rfl

/-- Acknowledging clears every cause and lowers IRQ, with an edge when the line was high (R324). -/
theorem acknowledge_eq {s : State} (hd : s.drq = s.xferActive) :
    acknowledge s = { s with int := 0#5, irq := false, edges := s.edges ++ irqFall s } := by
  simp only [acknowledge, updateLines, lineEdges, irqFall, hd]
  cases s.irq <;> simp

theorem intStatusByte_eq_zero_iff (s : State) : intStatusByte s = 0x00#8 ↔ s.int = 0#5 := by
  simp only [intStatusByte]
  generalize s.int = i
  revert i
  decide

/-! ## The command register -/

@[simp] theorem slot0_cons {s : State} {v : Byte} {rest : List Byte} (h : s.cmdq = v :: rest) : slot0 s = v := by
  simp [slot0, h]

@[simp] theorem opcode_commandByte_zero (x : Bool) : opcode (commandByte 0x00#8 x) = 0x00#8 := by cases x <;> decide
@[simp] theorem opcode_commandByte_flush (x : Bool) : opcode (commandByte 0x01#8 x) = 0x01#8 := by cases x <;> decide
@[simp] theorem opcode_commandByte_devReset (x : Bool) : opcode (commandByte 0x02#8 x) = 0x02#8 := by cases x <;> decide
@[simp] theorem opcode_commandByte_busReset (x : Bool) : opcode (commandByte 0x03#8 x) = 0x03#8 := by cases x <;> decide
@[simp] theorem opcode_commandByte_select (x : Bool) : opcode (commandByte 0x10#8 x) = 0x10#8 := by cases x <;> decide
@[simp] theorem opcode_commandByte_selXfer (x : Bool) : opcode (commandByte 0x11#8 x) = 0x11#8 := by cases x <;> decide
@[simp] theorem opcode_commandByte_selAtn (x : Bool) : opcode (commandByte 0x12#8 x) = 0x12#8 := by cases x <;> decide
@[simp] theorem opcode_commandByte_selAtnXfer (x : Bool) : opcode (commandByte 0x13#8 x) = 0x13#8 := by cases x <;> decide
@[simp] theorem opcode_commandByte_tSendData (x : Bool) : opcode (commandByte 0x20#8 x) = 0x20#8 := by cases x <;> decide
@[simp] theorem opcode_commandByte_tSendStat (x : Bool) : opcode (commandByte 0x21#8 x) = 0x21#8 := by cases x <;> decide
@[simp] theorem opcode_commandByte_tReselect (x : Bool) : opcode (commandByte 0x22#8 x) = 0x22#8 := by cases x <;> decide
@[simp] theorem opcode_commandByte_tDisconnect (x : Bool) : opcode (commandByte 0x23#8 x) = 0x23#8 := by
  cases x <;> decide
@[simp] theorem opcode_commandByte_xfer (x : Bool) : opcode (commandByte 0x30#8 x) = 0x30#8 := by cases x <;> decide
@[simp] theorem opcode_commandByte_release (x : Bool) : opcode (commandByte 0x31#8 x) = 0x31#8 := by cases x <;> decide

theorem opcode_opcode (v : Byte) : opcode (opcode v) = opcode v := by simp [opcode, BitVec.and_assoc]

/-- What is valid in a mode is one of the opcodes of that mode (R105, R106). -/
theorem valid_cases (v : Byte) (m : Mode) (h : valid (opcode v) m = true) :
    isImmediate (opcode v) = true ∨ opcode v = 0x01#8 ∨ (isSelect (opcode v) = true ∧ m = .disconnected) ∨
    ((opcode v = 0x20#8 ∨ opcode v = 0x21#8 ∨ opcode v = 0x22#8) ∧ m = .target) ∨
    (opcode v = 0x23#8 ∧ m = .target) ∨ (opcode v = 0x30#8 ∧ m = .initiator) ∨
    (opcode v = 0x31#8 ∧ m = .initiator) := by
  revert v
  cases m <;> decide

/-- No command needs more FIFO bytes than the FIFO holds (R108, R180). -/
theorem need_le_two (c : Byte) : need c ≤ 2 := by
  unfold need
  repeat (split; · decide)
  decide

/-- `targetOf` is the one id whose number is the low three bits of `bus_id` (R23). -/
theorem targetOf_eq {b : Byte} {t : TargetId} (h : t.val = b.toNat % 8) : targetOf b = t := by
  apply Fin.ext
  simp [targetOf, BitVec.extractLsb', h]

theorem populated_congr {s t : State} (h : s.dev = t.dev) (i : TargetId) : populated s i = populated t i := by
  simp [populated, h]

/-! ## Dispatch -/

/-- The start of a select, written out (R233, R234, R235). -/
theorem selectStart_eq (c : Byte) (s : State) :
    selectStart c s =
      if populated s (targetOf s.busId) then
        { s with
          selTarget := targetOf s.busId
          cmdPhase := 0x00#8
          cstate := .executing
          phase := .command
          pending := some ⟨.cc, s.now + ccDelay s.units s.ccf⟩
          fifo := []
          xferRemaining := nextLength s
          lenIn := s.lenIn.tail
          freeCount := s.freeCount + 1
          calls := s.calls ++ [.execute (targetOf s.busId) (cdbOf c s.fifo)] }
      else
        { s with
          selTarget := targetOf s.busId
          cmdPhase := 0x00#8
          cstate := .executing
          phase := .selection
          pending := some ⟨.sel, s.now + selDelay s.units s.timeout s.ccf⟩ } := by
  simp only [selectStart, selectPopulated, selectLatch, schedule, cancel, callExecute, fifoFlush, nextLength]

/-- `dispatch` and `pop_and_chain` with enough depth do not depend on it (R194: each dispatch inside a dispatch follows
a pop). -/
theorem dispatchN_stable (k : Nat) : ∀ s : State, s.cmdq.length < k → dispatchN k s = dispatchN (s.cmdq.length + 1) s := by
  induction k using Nat.strongRecOn with
  | _ k ih =>
    intro s hk
    obtain ⟨k, rfl⟩ : ∃ j, k = j + 1 := ⟨k - 1, by omega⟩
    suffices h : ∀ t : State, t.cmdq = s.cmdq →
        popAndChainWith (dispatchN k) t = popAndChainWith (dispatchN s.cmdq.length) t by
      simp only [dispatchN, dispatchWith, executeCmd, doFlush]
      rw [h]
      rfl
    intro t ht
    unfold popAndChainWith
    split
    case isFalse => rfl
    case isTrue h =>
      split
      case isFalse => rfl
      case isTrue h' =>
        obtain ⟨v, rest, hq⟩ : ∃ v rest, t.cmdq = v :: rest := by
          cases hc : t.cmdq with
          | nil => exact absurd hc h.1
          | cons v rest => exact ⟨v, rest, rfl⟩
        have hs : s.cmdq.length = rest.length + 1 := by rw [← ht, hq]; rfl
        have htail : ({ t with cmdq := t.cmdq.tail } : State).cmdq.length = rest.length := by simp [hq]
        rcases Nat.lt_or_ge rest.length k with hlt | hge
        · rw [ih k (by omega) _ (by omega), htail, hs]
        · omega

/-- `dispatch()` as R189 writes it, with R194's `pop_and_chain()` inside. -/
theorem dispatch_eq (s : State) : dispatch s = dispatchWith popAndChain s := by
  suffices h : ∀ t : State, t.cmdq = s.cmdq →
      popAndChainWith (dispatchN s.cmdq.length) t = popAndChain t by
    simp only [dispatch, dispatchN, dispatchWith, executeCmd, doFlush]
    rw [h]
    rfl
  intro t ht
  unfold popAndChain popAndChainWith
  split
  case isFalse => rfl
  case isTrue h =>
    split
    case isFalse => rfl
    case isTrue h' =>
      obtain ⟨v, rest, hq⟩ : ∃ v rest, t.cmdq = v :: rest := by
        cases hc : t.cmdq with
        | nil => exact absurd hc h.1
        | cons v rest => exact ⟨v, rest, rfl⟩
      rw [dispatch]
      exact dispatchN_stable _ _ (by rw [← ht]; simp [hq])

/-- Everything `dispatch()` can do (R189 to R192). -/
theorem dispatch_cases (s : State) :
    (valid (opcode (slot0 s)) s.mode = false ∧ dispatch s = rejectIllegal s) ∨
    (valid (opcode (slot0 s)) s.mode = true ∧ s.fifo.length < need (opcode (slot0 s)) ∧ dispatch s = defer s) ∨
    (need (opcode (slot0 s)) ≤ s.fifo.length ∧
      ((opcode (slot0 s) = 0x01#8 ∧ dispatch s = popAndChain { s with fifo := [], cstate := .completed }) ∨
      (isSelect (opcode (slot0 s)) = true ∧ s.mode = .disconnected ∧
        dispatch s = selectStart (opcode (slot0 s)) s) ∨
      ((opcode (slot0 s) = 0x20#8 ∨ opcode (slot0 s) = 0x21#8 ∨ opcode (slot0 s) = 0x22#8) ∧ s.mode = .target ∧
        dispatch s = targetStart (need (opcode (slot0 s))) s) ∨
      (opcode (slot0 s) = 0x23#8 ∧ s.mode = .target ∧ dispatch s = endConnection s) ∨
      (opcode (slot0 s) = 0x30#8 ∧ s.mode = .initiator ∧ dispatch s = doXfer s) ∨
      (opcode (slot0 s) = 0x31#8 ∧ s.mode = .initiator ∧ dispatch s = endConnection s) ∨
      (isImmediate (opcode (slot0 s)) = true ∧ dispatch s = s))) := by
  rw [dispatch_eq, dispatchWith]
  cases hv : valid (opcode (slot0 s)) s.mode
  case false => exact .inl ⟨rfl, by simp⟩
  case true =>
    refine .inr ?_
    by_cases hn : s.fifo.length < need (opcode (slot0 s))
    · exact .inl ⟨rfl, hn, by simp [hn]⟩
    · refine .inr ⟨by omega, ?_⟩
      simp only [hn, if_true, if_false]
      rcases valid_cases _ _ hv with h | h | ⟨h, hm⟩ | ⟨h, hm⟩ | ⟨h, hm⟩ | ⟨h, hm⟩ | ⟨h, hm⟩
      · have h' := h
        simp only [isImmediate, Bool.or_eq_true, decide_eq_true_eq] at h'
        refine .inr (.inr (.inr (.inr (.inr (.inr ⟨h, ?_⟩)))))
        rcases h' with (h' | h') | h' <;> rw [h'] <;> rfl
      · exact .inl ⟨h, by rw [h]; rfl⟩
      · have h' := h
        simp only [isSelect, Bool.or_eq_true, decide_eq_true_eq] at h'
        refine .inr (.inl ⟨h, hm, ?_⟩)
        rcases h' with ((h' | h') | h') | h' <;> rw [h'] <;> rfl
      · refine .inr (.inr (.inl ⟨h, hm, ?_⟩))
        rcases h with h | h | h <;> rw [h] <;> rfl
      · exact .inr (.inr (.inr (.inl ⟨h, hm, by rw [h]; rfl⟩)))
      · exact .inr (.inr (.inr (.inr (.inl ⟨h, hm, by rw [h]; rfl⟩))))
      · exact .inr (.inr (.inr (.inr (.inr (.inl ⟨h, hm, by rw [h]; rfl⟩)))))

/-- Everything `pop_and_chain()` can do (R194, R195). -/
theorem popAndChain_cases (s : State) :
    ((s.cmdq = [] ∨ s.cstate ≠ .completed) ∧ popAndChain s = s) ∨
    (∃ v, s.cmdq = [v] ∧ s.cstate = .completed ∧ popAndChain s = { s with cmdq := [], cstate := .idle }) ∨
    (∃ v w rest, s.cmdq = v :: w :: rest ∧ s.cstate = .completed ∧
      popAndChain s = dispatch { s with cmdq := w :: rest }) := by
  unfold popAndChain popAndChainWith
  by_cases hc : s.cstate = .completed
  · match hq : s.cmdq with
    | [] => exact .inl ⟨.inl rfl, by simp⟩
    | [v] => exact .inr (.inl ⟨v, rfl, hc, by simp [hc]⟩)
    | v :: w :: rest => exact .inr (.inr ⟨v, w, rest, rfl, hc, by simp [hc]⟩)
  · exact .inl ⟨.inr hc, by simp [hc]⟩

/-- Everything `submit(v)` can do (R186 to R188). -/
theorem submit_cases (v : Byte) (s : State) :
    (opcode v = 0x00#8 ∧ submit v s = doReset s) ∨ (opcode v = 0x02#8 ∧ submit v s = doDevReset s) ∨
    (opcode v = 0x03#8 ∧ submit v s = doBusReset s) ∨
    (isImmediate (opcode v) = false ∧
      ((cmdqDepth ≤ s.cmdq.length ∧ submit v s = { s with ge := true }) ∨
      (s.cmdq = [] ∧ submit v s = dispatch { s with cmdq := [v] }) ∨
      (s.cmdq ≠ [] ∧ s.cmdq.length < cmdqDepth ∧ submit v s = { s with cmdq := s.cmdq ++ [v] }))) := by
  unfold submit
  by_cases h0 : opcode v = 0x00#8
  · exact .inl ⟨h0, if_pos h0⟩
  by_cases h2 : opcode v = 0x02#8
  · exact .inr (.inl ⟨h2, by simp [h2]⟩)
  by_cases h3 : opcode v = 0x03#8
  · exact .inr (.inr (.inl ⟨h3, by simp [h3]⟩))
  refine .inr (.inr (.inr ⟨by simp [isImmediate, h0, h2, h3], ?_⟩))
  simp only [h0, h2, h3, if_false, enqueue]
  by_cases hl : cmdqDepth ≤ s.cmdq.length
  · exact .inl ⟨hl, if_pos hl⟩
  · simp only [hl, if_false]
    by_cases hq : s.cmdq = []
    · exact .inr (.inl ⟨hq, if_pos hq⟩)
    · exact .inr (.inr ⟨hq, by omega, if_neg hq⟩)

/-- The interrupt-status read, by whether a bit was set (R139). -/
theorem readIntStatus_eq (s : State) :
    readIntStatus s = if s.int = 0#5 then acknowledge s else popAndChain (acknowledge s) := by
  unfold readIntStatus
  by_cases h : s.int = 0#5
  · simp [h, (intStatusByte_eq_zero_iff s).2 h]
  · simp [h, (intStatusByte_eq_zero_iff s).not.2 h]

/-! ## The timer -/

/-- A Command-Complete, written out for a select and for every other command (R294 to R296). -/
theorem onCommandComplete_eq (s : State) :
    onCommandComplete s =
      if isSelect (opcode (slot0 s)) then
        updateLines { s with
          int := s.int ||| causeBit .commandComplete
          mode := .initiator
          cmdPhase := if xferFlag (opcode (slot0 s)) then 0x60#8 else 0x10#8
          phase := if 0 < s.xferRemaining then .data else .status
          xferActive := s.xferActive || (xferFlag (opcode (slot0 s)) && decide (0 < s.xferRemaining))
          cstate := .completed }
      else
        updateLines { s with
          int := s.int ||| causeBit .commandComplete
          phase := ccOtherPhase (opcode (slot0 s)) s.phase
          cstate := .completed } := by
  simp only [onCommandComplete, ccEffect]
  split <;> simp only [setCause, ccSelect, ccOther]

/-- What `slot0` answers where the queue is not empty does not depend on the other fields. -/
theorem slot0_congr {s t : State} (h : t.cmdq = s.cmdq) (hq : s.cmdq ≠ []) : slot0 t = slot0 s := by
  cases hc : s.cmdq with
  | nil => exact absurd hc hq
  | cons v rest => rw [slot0_cons hc, slot0_cons (h.trans hc)]

/-- Everything `fire()` can do (R292). -/
theorem fire_cases (s : State) :
    (s.pending = none ∧ fire s = s) ∨
    (∃ d, s.pending = some ⟨.sel, d⟩ ∧ fire s = onSelectTimeout (cancel s)) ∨
    (∃ d, s.pending = some ⟨.cc, d⟩ ∧ fire s = onCommandComplete (cancel s)) := by
  unfold fire
  match s.pending with
  | none => exact .inl ⟨rfl, rfl⟩
  | some ⟨.sel, d⟩ => exact .inr (.inl ⟨d, rfl, rfl⟩)
  | some ⟨.cc, d⟩ => exact .inr (.inr ⟨d, rfl, rfl⟩)

theorem due_of_none {s : State} (h : s.pending = none) : due s = false := by simp [due, h]

theorem due_of_some {s : State} {p : Pending} (h : s.pending = some p) : due s = decide (p.deadline ≤ s.now) := by
  simp [due, h]

/-- A property that a cycle keeps is kept by the time advance. -/
theorem advance_keeps {P : State → Prop} (h : ∀ s, P s → P (cycle s)) (n : Nat) : ∀ s, P s → P (advance n s) := by
  induction n with
  | zero => exact fun s hs => hs
  | succ n ih => exact fun s hs => ih _ (h s hs)

end Sys2Proof.Machine
end

