-- ==== Sys2Proof/Laws/Keeps.lean ====
section
/-! SUPPORT. One induction for every property that the parts of the decoder keep: a property kept by each start, each
end and each reset is kept by dispatch, by pop-and-chain, by submission and by every operation. -/

namespace Sys2Proof.Machine

open Host (Outcome)

/-- Submission to an empty queue is a dispatch (R186). -/
theorem submit_of_empty {s : State} {v : Byte} (hq : s.cmdq = []) (hv : isImmediate (opcode v) = false) :
    submit v s = dispatch { s with cmdq := [v] } := by
  simp only [isImmediate, Bool.or_eq_false_iff, decide_eq_false_iff_not] at hv
  simp [submit, hv, enqueue, hq, cmdqDepth]

/-- A command row is the submission of its byte (R100, R114). -/
theorem exec_of_submitted {i : Instr} {v : Byte} (h : submitted i = some v) (s : State) :
    exec i s = .next (submit v s) := by
  cases i <;> simp only [submitted, Option.some.injEq, reduceCtorEq] at h <;> subst h <;> rfl

/-- A property that each part of the decoder keeps. -/
structure DecoderKeeps (P : State → Prop) : Prop where
  reject : ∀ s, P s → P (rejectIllegal s)
  defer : ∀ s, P s → P (defer s)
  flush : ∀ s, P s → P { s with fifo := [], cstate := .completed }
  queue : ∀ s q, P s → P { s with cmdq := q }
  idle : ∀ s, P s → P { s with cmdq := [], cstate := .idle }
  select : ∀ c s, P s → P (selectStart c s)
  target : ∀ k s, P s → P (targetStart k s)
  connection : ∀ s, P s → P (endConnection s)
  xfer : ∀ s, P s → P (doXfer s)

theorem dispatch_keeps {P : State → Prop} (hP : DecoderKeeps P) : ∀ s, P s → P (dispatch s) := by
  suffices h : ∀ k s, s.cmdq.length = k → P s → P (dispatch s) from fun s => h _ s rfl
  intro k
  induction k using Nat.strongRecOn with
  | _ k ih =>
    intro s hk hs
    rcases dispatch_cases s with ⟨-, h⟩ | ⟨-, -, h⟩ | ⟨-, ⟨-, h⟩ | ⟨-, -, h⟩ | ⟨-, -, h⟩ | ⟨-, -, h⟩ | ⟨-, -, h⟩ | ⟨-, -, h⟩ | ⟨-, h⟩⟩
    · rw [h]; exact hP.reject s hs
    · rw [h]; exact hP.defer s hs
    · rw [h]
      have hf := hP.flush s hs
      rcases popAndChain_cases { s with fifo := [], cstate := .completed } with
        ⟨-, h'⟩ | ⟨_, -, -, h'⟩ | ⟨v, w, rest, hq, -, h'⟩
      · rw [h']; exact hf
      · rw [h']; exact hP.idle _ hf
      · rw [h']
        have hq : s.cmdq = v :: w :: rest := hq
        exact ih (w :: rest).length (by rw [← hk, hq]; simp) _ rfl (hP.queue _ _ hf)
    · rw [h]; exact hP.select _ s hs
    · rw [h]; exact hP.target _ s hs
    · rw [h]; exact hP.connection s hs
    · rw [h]; exact hP.xfer s hs
    · rw [h]; exact hP.connection s hs
    · rw [h]; exact hs

theorem popAndChain_keeps {P : State → Prop} (hP : DecoderKeeps P) (s : State) (hs : P s) : P (popAndChain s) := by
  rcases popAndChain_cases s with ⟨-, h⟩ | ⟨_, -, -, h⟩ | ⟨_, _, _, -, -, h⟩
  · rw [h]; exact hs
  · rw [h]; exact hP.idle s hs
  · rw [h]; exact dispatch_keeps hP _ (hP.queue s _ hs)

/-- What an operation that only stores a byte or the parity flag leaves; none for the other operations. -/
def plainStore (s : State) : Instr → Option State
  | .wrTcl v => some { s with tc := tcHigh s ++ v }
  | .wrTch v => some { s with tc := v ++ tcLow s }
  | .wrBusid v => some { s with busId := v }
  | .wrTimeout v => some { s with timeout := v }
  | .wrSyncp v => some { s with syncPeriod := v }
  | .wrSynco v => some { s with syncOffset := v }
  | .wrConfig v => some { s with config := v }
  | .wrCcf v => some { s with ccf := v }
  | .parity b => some { s with pe := b }
  | _ => none

/-- A property that each part of the controller keeps, the full resets and the plain stores apart. -/
structure ControllerKeeps (P : State → Prop) : Prop extends DecoderKeeps P where
  softReset : ∀ s, P s → P (doReset s)
  busReset : ∀ s, P s → P (doBusReset s)
  overrun : ∀ s, P s → P { s with ge := true }
  acknowledge : ∀ s, P s → P (acknowledge s)
  returnByte : ∀ off v s, P s → P (returnByte off v s)
  fifoDrop : ∀ s, P s → P (fifoDrop s)
  fifoPush : ∀ v s, P s → P (fifoPush v s)
  dataRead : ∀ s, P s → P (dataRead s)
  dataWrite : ∀ v s, P s → P (dataWrite v s)
  tick : ∀ s, P s → P (tick s)
  timeout : ∀ s, P s → P (onSelectTimeout (cancel s))
  complete : ∀ s, P s → P (onCommandComplete (cancel s))

theorem submit_keeps {P : State → Prop} (hP : ControllerKeeps P) (v : Byte) (s : State)
    (hfull : opcode v = 0x02#8 → P (doDevReset s)) (hs : P s) : P (submit v s) := by
  rcases submit_cases v s with ⟨-, h⟩ | ⟨h2, h⟩ | ⟨-, h⟩ | ⟨-, ⟨-, h⟩ | ⟨-, h⟩ | ⟨-, -, h⟩⟩ <;> rw [h]
  · exact hP.softReset s hs
  · exact hfull h2
  · exact hP.busReset s hs
  · exact hP.overrun s hs
  · exact dispatch_keeps hP.toDecoderKeeps _ (hP.queue s _ hs)
  · exact hP.queue s _ hs

theorem readIntStatus_keeps {P : State → Prop} (hP : ControllerKeeps P) (s : State) (hs : P s) : P (readIntStatus s) := by
  rw [readIntStatus_eq]
  split
  · exact hP.acknowledge s hs
  · exact popAndChain_keeps hP.toDecoderKeeps _ (hP.acknowledge s hs)

theorem pushByte_keeps {P : State → Prop} (hP : ControllerKeeps P) (v : Byte) (s : State) (hs : P s) : P (pushByte v s) := by
  unfold pushByte
  split
  · exact dispatch_keeps hP.toDecoderKeeps _ (hP.fifoPush v s hs)
  · exact hP.fifoPush v s hs

theorem fire_keeps {P : State → Prop} (hP : ControllerKeeps P) (s : State) (hs : P s) : P (fire s) := by
  rcases fire_cases s with ⟨-, h⟩ | ⟨_, -, h⟩ | ⟨_, -, h⟩ <;> rw [h]
  · exact hs
  · exact hP.timeout s hs
  · exact hP.complete s hs

theorem cycle_keeps {P : State → Prop} (hP : ControllerKeeps P) (s : State) (hs : P s) : P (cycle s) := by
  unfold cycle
  split
  · exact fire_keeps hP _ (hP.tick s hs)
  · exact hP.tick s hs

/-- A property that each part of the controller keeps is kept by every operation, if the full resets and the plain
stores keep it where the operation is one of them. -/
theorem exec_keeps {P : State → Prop} (hP : ControllerKeeps P) (i : Instr) (s t : State)
    (hfull : isFullReset i = true → P (doDevReset s)) (hstore : ∀ u, plainStore s i = some u → P u)
    (h : exec i s = .next t) (hs : P s) : P t := by
  cases hi : submitted i with
  | some v =>
    rw [exec_of_submitted hi] at h
    injection h with h
    exact h ▸ submit_keeps hP v s (fun hv => hfull (by simp [isFullReset, hi, hv])) hs
  | none =>
    cases i <;> simp only [submitted, reduceCtorEq] at hi <;> injection h with h <;> subst h
    case rdFifo =>
      split
      · exact hP.returnByte _ _ _ (hP.dataRead s hs)
      · exact hP.returnByte _ _ _ (hP.fifoDrop s hs)
    case rdIntstat => exact hP.returnByte _ _ _ (readIntStatus_keeps hP s hs)
    case wrFifo v =>
      split
      · exact hP.dataWrite v s hs
      · exact pushByte_keeps hP v s hs
    case adv n => exact advance_keeps (cycle_keeps hP) n s hs
    case hreset => exact hfull rfl
    case fireSel => split <;> first | exact fire_keeps hP s hs | exact hs
    case fireCc => split <;> first | exact fire_keeps hP s hs | exact hs
    all_goals first | exact hP.returnByte _ _ s hs | exact hstore _ rfl

end Sys2Proof.Machine
end

