-- ==== Sys2Proof/Laws/Frame.lean ====
section
/-! SUPPORT. What the decoder leaves alone: the registers that no command writes, virtual time, the parameters, the
inputs, the bytes returned; the edges and the calls only grow. -/

namespace Sys2Proof.Machine

/-- What dispatch and pop-and-chain leave alone. -/
structure DecoderFrame (s t : State) : Prop where
  tc : t.tc = s.tc
  busId : t.busId = s.busId
  timeout : t.timeout = s.timeout
  syncPeriod : t.syncPeriod = s.syncPeriod
  syncOffset : t.syncOffset = s.syncOffset
  config : t.config = s.config
  ccf : t.ccf = s.ccf
  ge : t.ge = s.ge
  pe : t.pe = s.pe
  now : t.now = s.now
  dev : t.dev = s.dev
  units : t.units = s.units
  inbox : t.inbox = s.inbox
  byteIn : t.byteIn = s.byteIn
  reads : t.reads = s.reads
  mode : t.mode = s.mode ∨ t.mode = .disconnected
  edges : s.edges <+: t.edges
  calls : s.calls <+: t.calls

theorem DecoderFrame.refl (s : State) : DecoderFrame s s :=
  ⟨rfl, rfl, rfl, rfl, rfl, rfl, rfl, rfl, rfl, rfl, rfl, rfl, rfl, rfl, rfl, .inl rfl, List.prefix_rfl, List.prefix_rfl⟩

theorem DecoderFrame.trans {s t u : State} (h : DecoderFrame s t) (k : DecoderFrame t u) : DecoderFrame s u where
  tc := k.tc.trans h.tc
  busId := k.busId.trans h.busId
  timeout := k.timeout.trans h.timeout
  syncPeriod := k.syncPeriod.trans h.syncPeriod
  syncOffset := k.syncOffset.trans h.syncOffset
  config := k.config.trans h.config
  ccf := k.ccf.trans h.ccf
  ge := k.ge.trans h.ge
  pe := k.pe.trans h.pe
  now := k.now.trans h.now
  dev := k.dev.trans h.dev
  units := k.units.trans h.units
  inbox := k.inbox.trans h.inbox
  byteIn := k.byteIn.trans h.byteIn
  reads := k.reads.trans h.reads
  mode := k.mode.elim (fun e => e ▸ h.mode) .inr
  edges := h.edges.trans k.edges
  calls := h.calls.trans k.calls

theorem selectStart_frame (c : Byte) (s : State) : DecoderFrame s (selectStart c s) := by
  rw [selectStart_eq]
  split
  · exact ⟨rfl, rfl, rfl, rfl, rfl, rfl, rfl, rfl, rfl, rfl, rfl, rfl, rfl, rfl, rfl, .inl rfl, List.prefix_rfl, List.prefix_append _ _⟩
  · exact ⟨rfl, rfl, rfl, rfl, rfl, rfl, rfl, rfl, rfl, rfl, rfl, rfl, rfl, rfl, rfl, .inl rfl, List.prefix_rfl, List.prefix_rfl⟩

theorem doXfer_frame (s : State) : DecoderFrame s (doXfer s) := by
  unfold doXfer
  split
  · exact ⟨rfl, rfl, rfl, rfl, rfl, rfl, rfl, rfl, rfl, rfl, rfl, rfl, rfl, rfl, rfl, .inl rfl, List.prefix_append _ _, List.prefix_rfl⟩
  · exact ⟨rfl, rfl, rfl, rfl, rfl, rfl, rfl, rfl, rfl, rfl, rfl, rfl, rfl, rfl, rfl, .inl rfl, List.prefix_rfl, List.prefix_rfl⟩

theorem endConnection_frame (s : State) : DecoderFrame s (endConnection s) :=
  ⟨rfl, rfl, rfl, rfl, rfl, rfl, rfl, rfl, rfl, rfl, rfl, rfl, rfl, rfl, rfl, .inr rfl, List.prefix_append _ _, List.prefix_rfl⟩

theorem rejectIllegal_frame (s : State) : DecoderFrame s (rejectIllegal s) :=
  ⟨rfl, rfl, rfl, rfl, rfl, rfl, rfl, rfl, rfl, rfl, rfl, rfl, rfl, rfl, rfl, .inl rfl, List.prefix_append _ _, List.prefix_rfl⟩

theorem decoderFrame_keeps (s : State) : DecoderKeeps (DecoderFrame s) where
  reject _ h := h.trans (rejectIllegal_frame _)
  defer _ h := { h with }
  flush _ h := { h with }
  queue _ _ h := { h with }
  idle _ h := { h with }
  select _ _ h := h.trans (selectStart_frame _ _)
  target _ _ h := { h with }
  connection _ h := h.trans (endConnection_frame _)
  xfer _ h := h.trans (doXfer_frame _)

theorem dispatch_frame (s : State) : DecoderFrame s (dispatch s) :=
  dispatch_keeps (decoderFrame_keeps s) s (.refl s)

theorem popAndChain_frame (s : State) : DecoderFrame s (popAndChain s) :=
  popAndChain_keeps (decoderFrame_keeps s) s (.refl s)

end Sys2Proof.Machine
end

