-- ==== Sys2Proof/Laws/PerInstr.lean ====
section
/-! SUPPORT. Per operation: decoding the encoding of a well-formed term gives it back. -/

namespace Sys2Proof.Laws.RoundTrip

/-- Decoding the encoding of `i` gives `i` back, if `i` is well formed. -/
def Statement (i : Instr) : Prop := i.wellFormed = true → decode (encode i) = .ok i

theorem rdTcl : Statement .rdTcl := fun _ => decode_read _ _ _

theorem rdTch : Statement .rdTch := fun _ => decode_read _ _ _

theorem rdFifo : Statement .rdFifo := fun _ => decode_read _ _ _

theorem rdCmd : Statement .rdCmd := fun _ => decode_read _ _ _

theorem rdStat : Statement .rdStat := fun _ => decode_read _ _ _

theorem rdIntstat : Statement .rdIntstat := fun _ => decode_read _ _ _

theorem rdSeq : Statement .rdSeq := fun _ => decode_read _ _ _

theorem rdFflags : Statement .rdFflags := fun _ => decode_read _ _ _

theorem rdConfig : Statement .rdConfig := fun _ => decode_read _ _ _

theorem rdCcf : Statement .rdCcf := fun _ => decode_read _ _ _

theorem wrTcl (v : Byte) : Statement (.wrTcl v) := fun _ => decode_write _ _ _

theorem wrTch (v : Byte) : Statement (.wrTch v) := fun _ => decode_write _ _ _

theorem wrFifo (v : Byte) : Statement (.wrFifo v) := fun _ => decode_write _ _ _

theorem wrCmd (v : Byte) : Statement (.wrCmd v) := fun _ => decode_write _ _ _

theorem wrBusid (v : Byte) : Statement (.wrBusid v) := fun _ => decode_write _ _ _

theorem wrTimeout (v : Byte) : Statement (.wrTimeout v) := fun _ => decode_write _ _ _

theorem wrSyncp (v : Byte) : Statement (.wrSyncp v) := fun _ => decode_write _ _ _

theorem wrSynco (v : Byte) : Statement (.wrSynco v) := fun _ => decode_write _ _ _

theorem wrConfig (v : Byte) : Statement (.wrConfig v) := fun _ => decode_write _ _ _

theorem wrCcf (v : Byte) : Statement (.wrCcf v) := fun _ => decode_write _ _ _

theorem reset (x : Bool) : Statement (.reset x) := fun _ => by cases x <;> rfl

theorem flush (x : Bool) : Statement (.flush x) := fun _ => by cases x <;> rfl

theorem devReset (x : Bool) : Statement (.devReset x) := fun _ => by cases x <;> rfl

theorem busReset (x : Bool) : Statement (.busReset x) := fun _ => by cases x <;> rfl

theorem select (x : Bool) : Statement (.select x) := fun _ => by cases x <;> rfl

theorem selXfer (x : Bool) : Statement (.selXfer x) := fun _ => by cases x <;> rfl

theorem selAtn (x : Bool) : Statement (.selAtn x) := fun _ => by cases x <;> rfl

theorem selAtnXfer (x : Bool) : Statement (.selAtnXfer x) := fun _ => by cases x <;> rfl

theorem tSendData (x : Bool) : Statement (.tSendData x) := fun _ => by cases x <;> rfl

theorem tSendStat (x : Bool) : Statement (.tSendStat x) := fun _ => by cases x <;> rfl

theorem tReselect (x : Bool) : Statement (.tReselect x) := fun _ => by cases x <;> rfl

theorem tDisconnect (x : Bool) : Statement (.tDisconnect x) := fun _ => by cases x <;> rfl

theorem xfer (x : Bool) : Statement (.xfer x) := fun _ => by cases x <;> rfl

theorem release (x : Bool) : Statement (.release x) := fun _ => by cases x <;> rfl

theorem illegal (v : Byte) : Statement (.illegal v) := fun h =>
  congrArg Except.ok (decodeCommand_illegal v (by simpa [Instr.wellFormed] using h))

theorem adv (n : Nat) : Statement (.adv n) := fun _ => decode_adv _ _ _

theorem hreset : Statement .hreset := fun _ => decode_hreset _ _ _

theorem parity (b : Bool) : Statement (.parity b) := fun _ => by cases b <;> rfl

theorem fireSel : Statement .fireSel := fun h => absurd h (by decide)

theorem fireCc : Statement .fireCc := fun h => absurd h (by decide)

end Sys2Proof.Laws.RoundTrip
end

