-- ==== Sys2Proof/Tests/Slice0.lean ====
section
/-! SUPPORT. Tests: the ill-formed terms refused, a word for every constructor, one small step or two per operation,
with expected values from the vectors and programs of spec/95_test_vectors.md, and a witness for the hypotheses of
every statement. -/

namespace Sys2Proof.Tests

open Host (Outcome)
open Sys2Proof.Machine

/-! ## Well-formedness -/

theorem test_illegal_with_a_legal_opcode_is_ill_formed : (Instr.illegal 0x10).wellFormed = false := by decide
theorem test_illegal_with_bit_seven_is_ill_formed : (Instr.illegal 0xB1).wellFormed = false := by decide
theorem test_illegal_next_to_a_legal_opcode_is_well_formed : (Instr.illegal 0x32).wellFormed = true := by decide
theorem test_fireSel_is_no_stimulus : Instr.fireSel.wellFormed = false := by decide
theorem test_fireCc_is_no_stimulus : Instr.fireCc.wellFormed = false := by decide
theorem test_units_out_of_order_refused : DelayUnits.choose 16 16 = none ∧ DelayUnits.choose 3 0 = none := by decide
theorem test_units_chosen : (DelayUnits.choose 3 1).map DelayUnits.selUnit = some 3 := by decide

/-! ## Decoding: words written out from spec/30_encoding.md R101 (`kind ++ off ++ data`) and R104 -/

theorem test_decode_reads :
    decodeTableWord 16 0x0000 = some .rdTcl ∧ decodeTableWord 16 0x0100 = some .rdTch ∧
    decodeTableWord 16 0x0200 = some .rdFifo ∧ decodeTableWord 16 0x0300 = some .rdCmd ∧
    decodeTableWord 16 0x0400 = some .rdStat ∧ decodeTableWord 16 0x0500 = some .rdIntstat ∧
    decodeTableWord 16 0x0600 = some .rdSeq ∧ decodeTableWord 16 0x0700 = some .rdFflags ∧
    decodeTableWord 16 0x0800 = some .rdConfig ∧ decodeTableWord 16 0x0900 = some .rdCcf := by decide

theorem test_decode_writes :
    decodeTableWord 16 0x10CD = some (.wrTcl 0xCD) ∧ decodeTableWord 16 0x11AB = some (.wrTch 0xAB) ∧
    decodeTableWord 16 0x12C0 = some (.wrFifo 0xC0) ∧ decodeTableWord 16 0x1313 = some (.wrCmd 0x13) ∧
    decodeTableWord 16 0x1409 = some (.wrBusid 0x09) ∧ decodeTableWord 16 0x1503 = some (.wrTimeout 0x03) ∧
    decodeTableWord 16 0x16FF = some (.wrSyncp 0xFF) ∧ decodeTableWord 16 0x17FF = some (.wrSynco 0xFF) ∧
    decodeTableWord 16 0x18A5 = some (.wrConfig 0xA5) ∧ decodeTableWord 16 0x1902 = some (.wrCcf 0x02) := by decide

theorem test_decode_commands :
    decodeTableWord 8 0x00 = some (.reset false) ∧ decodeTableWord 8 0x81 = some (.flush true) ∧
    decodeTableWord 8 0x02 = some (.devReset false) ∧ decodeTableWord 8 0x83 = some (.busReset true) ∧
    decodeTableWord 8 0x10 = some (.select false) ∧ decodeTableWord 8 0x91 = some (.selXfer true) ∧
    decodeTableWord 8 0x12 = some (.selAtn false) ∧ decodeTableWord 8 0x93 = some (.selAtnXfer true) ∧
    decodeTableWord 8 0x20 = some (.tSendData false) ∧ decodeTableWord 8 0xA1 = some (.tSendStat true) ∧
    decodeTableWord 8 0x22 = some (.tReselect false) ∧ decodeTableWord 8 0xA3 = some (.tDisconnect true) ∧
    decodeTableWord 8 0x30 = some (.xfer false) ∧ decodeTableWord 8 0xB1 = some (.release true) := by decide

theorem test_decode_illegal : decodeTableWord 8 0x04 = some (.illegal 0x04) ∧ decodeTableWord 8 0x7F = some (.illegal 0x7F) ∧
    decodeTableWord 8 0xFF = some (.illegal 0xFF) ∧ decodeTableWord 8 0x32 = some (.illegal 0x32) := by decide

/-- `ADV`'s operand is carried beside the word, here in the bits above it (log entry 14). -/
theorem test_decode_events :
    decodeTableWord 16 0x8000 = some (.adv 0) ∧ decodeTableWord 24 0x1F8000 = some (.adv 31) ∧
    decodeTableWord 16 0x9000 = some .hreset ∧ decodeTableWord 16 0xA000 = some (.parity false) ∧
    decodeTableWord 16 0xA001 = some (.parity true) := by decide

/-- The firings have no bit pattern: `ADV`'s word decodes to `ADV` (R113; log entry 16). -/
theorem test_firings_have_no_word : encode .fireSel = encode (.adv 0) ∧ encode .fireCc = encode (.adv 0) := by decide

theorem test_other_words_refused :
    decode (.stim 0x0A00 0) = .error (.offsetOutOfRange 0xA) ∧ decode (.stim 0x1F00 0) = .error (.offsetOutOfRange 0xF) ∧
    decode (.stim 0x2000 0) = .error (.notAStimulus 0x2) ∧ decode (.stim 0xB000 0) = .error (.notAStimulus 0xB) ∧
    decode (.stim 0xA002 0) = .error (.parityOperand 0xA002) := by decide

/-! ## Small states -/

/-- A view of the next state, if there is one. -/
def after {α : Type} (o : Outcome State Fault Refusal) (view : State → α) : Option α :=
  match o with
  | .next s => some (view s)
  | .fault _ => none
  | .refused _ => none

/-- Mode `D`, a device in slot 0. -/
def withDevice : State := { State.reset with dev := #v[some 0, none, none, none, none, none, none, none] }

/-- A select running against an empty slot (V-DEC-5). -/
def selecting : State :=
  { State.reset with cmdq := [0x10], cstate := .executing, phase := .selection, pending := some ⟨.sel, 8192⟩ }

/-- A select with the transfer flag running against slot 0, whose device expects 4 bytes. -/
def connecting : State :=
  { withDevice with
    cmdq := [0x13], cstate := .executing, phase := .command, pending := some ⟨.cc, 16⟩, xferRemaining := 4 }

/-- Mode `I`, phase `DATA`, an XFER waiting for `n` bytes (V-INI-1). -/
def transferring (n : Nat) : State :=
  { withDevice with
    mode := .initiator, phase := .data, xferActive := true, drq := true, xferRemaining := n
    cmdq := [0x30], cstate := .executing }

/-- A select against slot 0 deferred for its CDB byte (program P4, step 4). -/
def deferred : State := { withDevice with cmdq := [0x13], cstate := .deferred, fifo := [0x80] }

/-- Mode `T`, placed by hand (spec/95_test_vectors.md 2.6). -/
def asTarget : State := { State.reset with mode := .target, phase := .command, fifo := [0x01, 0x02, 0x03] }

/-- Mode `I` with status owed. -/
def asInitiator : State := { withDevice with mode := .initiator, phase := .status }

/-- An illegal command not yet acknowledged, `w` waiting behind it (program P3, step 3). -/
def rejected (w : List Byte) : State :=
  { State.reset with cmdq := 0x30 :: w, cstate := .completed, int := 0b00100, irq := true }

/-! ## Steps -/

/-- V-REG-1. -/
theorem test_wrTcl_keeps_high_half : after (exec (.wrTcl 0x01) { State.reset with tc := 0xABCD }) (·.tc) = some 0xAB01 := by
  decide
theorem test_wrTch_keeps_low_half : after (exec (.wrTch 0xAB) { State.reset with tc := 0x00CD }) (·.tc) = some 0xABCD := by
  decide
theorem test_rdTcl_returns_low_half :
    after (exec .rdTcl { State.reset with tc := 0xABCD }) (·.reads) = some [⟨0x0, 0xCD⟩] := by decide
theorem test_rdTch_returns_high_half :
    after (exec .rdTch { State.reset with tc := 0xABCD }) (·.reads) = some [⟨0x1, 0xAB⟩] := by decide

/-- V-REG-2: the reads of the shared and the write-only offsets. -/
theorem test_rdCmd_is_write_only : after (exec .rdCmd (rejected [])) (·.reads) = some [⟨0x3, 0x00⟩] := by decide
theorem test_rdCcf_is_write_only : after (exec .rdCcf { State.reset with ccf := 0xFF }) (·.reads) = some [⟨0x9, 0x00⟩] := by
  decide
theorem test_rdSeq_is_not_the_sync_period :
    after (exec .rdSeq { State.reset with syncPeriod := 0xFF, cmdPhase := 0x60 }) (·.reads) = some [⟨0x6, 0x60⟩] := by decide
theorem test_rdFflags_is_not_the_sync_offset :
    after (exec .rdFflags { asTarget with syncOffset := 0xFF }) (·.reads) = some [⟨0x7, 0x03⟩] := by decide
theorem test_rdConfig_reads_back : after (exec .rdConfig { State.reset with config := 0xA5 }) (·.reads) = some [⟨0x8, 0xA5⟩] := by
  decide
theorem test_plain_stores :
    after (exec (.wrBusid 0xFF) State.reset) (·.busId) = some 0xFF ∧
    after (exec (.wrTimeout 0x03) State.reset) (·.timeout) = some 0x03 ∧
    after (exec (.wrSyncp 0xFF) State.reset) (·.syncPeriod) = some 0xFF ∧
    after (exec (.wrSynco 0xFE) State.reset) (·.syncOffset) = some 0xFE ∧
    after (exec (.wrConfig 0xA5) State.reset) (·.config) = some 0xA5 ∧
    after (exec (.wrCcf 0x02) State.reset) (·.ccf) = some 0x02 := by decide

/-- V-REG-3 (a) and (b). -/
theorem test_rdStat_target :
    after (exec .rdStat { State.reset with mode := .target, phase := .message, ge := true, pe := true, int := 0b11111, irq := true })
      (·.reads) = some [⟨0x4, 0xED⟩] := by decide
theorem test_rdStat_initiator :
    after (exec .rdStat { State.reset with mode := .initiator, phase := .data }) (·.reads) = some [⟨0x4, 0x13⟩] := by decide

/-- V-REG-5. -/
theorem test_rdIntstat_acknowledges_and_pops :
    after (exec .rdIntstat { State.reset with cmdq := [0x10], cstate := .completed, int := 0b10001, irq := true })
      (fun s => (s.reads, s.int, s.irq, s.cmdq, s.cstate)) = some ([⟨0x5, 0x11⟩], 0, false, [], .idle) := by decide
/-- Program P3, step 9: the chained FLUSH runs inside the read. -/
theorem test_rdIntstat_runs_the_chained_flush :
    after (exec .rdIntstat { rejected [0x01] with fifo := [0xAA, 0xBB] })
      (fun s => (s.reads, s.fifo, s.cmdq, s.cstate, s.edges)) =
      some ([⟨0x5, 0x04⟩], [], [], .idle, [⟨.irq, false, 0⟩]) := by decide

/-- V-FIFO-1 and V-FIFO-2. -/
theorem test_wrFifo_full_is_lost :
    after (exec (.wrFifo 0x11) { State.reset with fifo := List.replicate 16 0x10 }) (fun s => (s.fifo.length, s.ge)) =
      some (16, false) := by decide
theorem test_rdFifo_takes_the_oldest :
    after (exec .rdFifo asTarget) (fun s => (s.reads, s.fifo)) = some ([⟨0x2, 0x01⟩], [0x02, 0x03]) := by decide
theorem test_rdFifo_empty : after (exec .rdFifo State.reset) (·.reads) = some [⟨0x2, 0x00⟩] := by decide
/-- Program P5, step 16. -/
theorem test_wrFifo_last_data_byte :
    after (exec (.wrFifo 0x33) (transferring 1))
      (fun s => (s.calls, s.xferActive, s.phase, s.cstate, s.edges)) =
      some ([.writeData 0 0x33], false, .status, .completed, [⟨.irq, true, 0⟩, ⟨.drq, false, 0⟩]) := by decide

/-- V-DEC-3. -/
theorem test_wrCmd_target_command_illegal_in_mode_D :
    after (exec (.wrCmd 0x20) State.reset) (fun s => (s.cmdq, s.cstate, s.int, s.mode)) =
      some ([0x20], .completed, 0b00100, .disconnected) := by decide
theorem test_illegal_keeps_the_byte_as_written :
    after (exec (.illegal 0xFF) State.reset) (fun s => (s.cmdq, s.cstate, s.int, s.edges)) =
      some ([0xFF], .completed, 0b00100, [⟨.irq, true, 0⟩]) := by decide

/-- V-DEC-1. -/
theorem test_reset_keeps_causes_and_fifo :
    after (exec (.reset true) { State.reset with ge := true, int := 0b00001, irq := true, fifo := [0x09] })
      (fun s => (s.ge, s.int, s.irq, s.fifo, s.edges)) = some (false, 0b00001, true, [0x09], []) := by decide
/-- V-FIFO-4. -/
theorem test_flush : after (exec (.flush true) { State.reset with fifo := [0x05] }) id = some State.reset := by decide
/-- V-MISC-2. -/
theorem test_devReset_is_full :
    after (exec (.devReset false) { State.reset with
      ccf := 2, timeout := 3, fifo := [0x09], cmdq := [0x10], cstate := .completed, int := 0b00001, irq := true, now := 65536 }) id =
      some { State.reset with now := 65536, edges := [⟨.irq, false, 65536⟩] } := by decide
/-- V-MISC-3. -/
theorem test_busReset_cancels_a_select :
    after (exec (.busReset false) { selecting with now := 100 }) id =
      some { State.reset with now := 100, int := 0b10000, irq := true, edges := [⟨.irq, true, 100⟩] } := by decide

/-- V-TMR-1, `ccf = 2`, `timeout = 3`. -/
theorem test_select_of_empty_slot :
    after (exec (.select false) { State.reset with ccf := 2, timeout := 3, busId := 3 })
      (fun s => (s.pending, s.phase, s.selTarget, s.cstate)) = some (some ⟨.sel, 65536⟩, .selection, 3, .executing) := by decide
/-- V-SEL-2, on slot 0. -/
theorem test_select_hands_over_every_byte :
    after (exec (.select false) { withDevice with busId := 0xF8, fifo := [0x0A, 0x0B], lenIn := [0] })
      (fun s => (s.calls, s.fifo, s.phase, s.pending)) =
      some ([.execute 0 [0x0A, 0x0B]], [], .command, some ⟨.cc, 16⟩) := by decide
theorem test_selXfer_needs_one_byte : after (exec (.selXfer false) State.reset) (fun s => (s.cmdq, s.cstate, s.pending)) =
    some ([0x11], .deferred, none) := by decide
/-- V-SEL-3. -/
theorem test_selAtn_of_empty_slot_takes_nothing :
    after (exec (.selAtn false) { State.reset with fifo := [0x80, 0x08] }) (fun s => (s.fifo, s.pending)) =
      some ([0x80, 0x08], some ⟨.sel, 8192⟩) := by decide
/-- Program P2, step 13. -/
theorem test_selAtnXfer_drops_the_message :
    after (exec (.selAtnXfer false) { withDevice with ccf := 2, fifo := [0xC0, 0x08, 0x00], lenIn := [4] })
      (fun s => (s.calls, s.xferRemaining, s.pending)) = some ([.execute 0 [0x08, 0x00]], 4, some ⟨.cc, 32⟩) := by decide

/-- V-TGT-1 to V-TGT-4. -/
theorem test_tSendData : after (exec (.tSendData false) asTarget) (fun s => (s.fifo, s.cstate, s.pending)) =
    some ([0x03], .executing, some ⟨.cc, 16⟩) := by decide
theorem test_tSendStat : after (exec (.tSendStat false) asTarget) (fun s => (s.fifo, s.pending)) =
    some ([0x03], some ⟨.cc, 16⟩) := by decide
theorem test_tReselect : after (exec (.tReselect false) asTarget) (fun s => (s.fifo, s.pending)) =
    some ([0x02, 0x03], some ⟨.cc, 16⟩) := by decide
theorem test_tDisconnect : after (exec (.tDisconnect false) asTarget) (fun s => (s.mode, s.phase, s.int, s.cstate)) =
    some (.disconnected, .free, 0b01000, .completed) := by decide

/-- Program P2, steps 24 and 28. -/
theorem test_xfer_in_status_phase : after (exec (.xfer false) { asInitiator with now := 32, ccf := 2 })
    (fun s => (s.cstate, s.pending, s.xferActive)) = some (.executing, some ⟨.cc, 64⟩, false) := by decide
theorem test_xfer_in_data_phase :
    after (exec (.xfer false) { asInitiator with phase := .data, xferRemaining := 5 })
      (fun s => (s.pending, s.xferActive, s.edges)) = some (none, true, [⟨.drq, true, 0⟩]) := by decide
theorem test_release : after (exec (.release false) { asInitiator with cmdPhase := 0x60 })
    (fun s => (s.mode, s.phase, s.cmdPhase, s.int)) = some (.disconnected, .free, 0x60, 0b01000) := by decide

/-- Program P2, step 15: one cycle before the deadline, and the cycle of the deadline. -/
theorem test_adv_reaches_the_deadline :
    after (exec (.adv 1) { connecting with now := 15 })
      (fun s => (s.now, s.mode, s.phase, s.cmdPhase, s.edges)) =
      some (16, .initiator, .data, 0x60, [⟨.irq, true, 16⟩, ⟨.drq, true, 16⟩]) := by decide
theorem test_adv_short_of_the_deadline :
    after (exec (.adv 15) connecting) (fun s => (s.now, s.pending, s.int)) = some (15, some ⟨.cc, 16⟩, 0) := by decide
/-- V-RST-1. -/
theorem test_hreset_in_a_transfer : after (exec .hreset { transferring 2 with int := 0b00010, irq := true, config := 0x77 }) id =
    some { withDevice with edges := [⟨.irq, false, 0⟩, ⟨.drq, false, 0⟩] } := by decide
/-- V-EXC-2. -/
theorem test_parity : after (exec (.parity true) State.reset) id = some { State.reset with pe := true } := by decide
/-- V-SEL-3: the Select-Timeout zeroes `tc`. -/
theorem test_fireSel : after (exec .fireSel { selecting with now := 8192, tc := 0x1234 })
    (fun s => (s.int, s.tc, s.phase, s.cstate, s.edges)) = some (0b00001, 0, .free, .completed, [⟨.irq, true, 8192⟩]) := by decide
theorem test_fireSel_not_due : after (exec .fireSel selecting) id = some selecting := by decide
/-- V-TGT-1: the phase after `TSENDDATA`. -/
theorem test_fireCc :
    after (exec .fireCc { asTarget with cmdq := [0x20], cstate := .executing, pending := some ⟨.cc, 16⟩, now := 16 })
      (fun s => (s.phase, s.int, s.mode)) = some (.data, 0b00010, .target) := by decide

/-- The step as the host runs it: a program's first word, from reset. -/
theorem test_step_first_word : after (step (State.reset.withFetchWord 16 0x1310)) id = some selecting := by decide
theorem test_step_refuses_kind_two : after (step (State.reset.withFetchWord 16 0x2000)) id = none := by decide

/-! ## Witnesses of the statements' hypotheses -/

theorem witness_decodeOfEncode : (Instr.illegal 0xFF).wellFormed = true ∧ (Instr.adv 5).wellFormed = true := by decide

theorem witness_encodeOfDecode :
    decode (.cmd 0x31) = .ok (.release false) ∧
    kindField 0x19FF = 0x1#4 ∧ decode (.stim 0x19FF 0) = .ok (.wrCcf 0xFF) := by decide

theorem witness_otherWordsRefused :
    kindField 0x2000 ∉ [0x0#4, 0x1#4, 0x8#4, 0x9#4, 0xA#4] ∧ kindField 0x7FFF ∉ [0x0#4, 0x1#4, 0x8#4, 0x9#4, 0xA#4] ∧
    kindField 0xB000 ∉ [0x0#4, 0x1#4, 0x8#4, 0x9#4, 0xA#4] ∧
    kindField 0x0A00 ∈ [0x0#4, 0x1#4] ∧ 9#4 < offField 0x0A00 ∧ kindField 0x1F00 ∈ [0x0#4, 0x1#4] ∧ 9#4 < offField 0x1F00 ∧
    kindField 0xA002 = 0xA#4 ∧ 0xA002#16 ∉ [0xA000#16, 0xA001#16] ∧ kindField 0xAFFF = 0xA#4 ∧
    ({ State.reset with inbox := [.stim 0x2000 0] } : State).inbox = [.stim 0x2000 0] ∧
    decode (.stim 0x2000 0) = .error (.notAStimulus 0x2) := by decide

theorem witness_stepPerformsDecoded :
    (State.reset.withFetchWord 8 0x10).inbox = [.cmd 0x10] ∧ decode (.cmd 0x10) = .ok (.select false) ∧
    State.reset.inbox = [] := by decide

theorem witness_legalCommandsCounted : hasOpcode 0x04 = false ∧ hasOpcode 0x32 = false := by decide

theorem witness_plainReads : FifoFits { State.reset with fifo := List.replicate 16 0x10 } := by decide

theorem witness_offsetSelectsOperation : (9 : Nat) < 10 ∧ ¬ (10 : Nat) < 10 ∧ (0 : Nat) ≠ 1 ∧ (2 : Nat) ≠ 1 := by decide

theorem witness_otherReadsIdempotent : (1 : Offset) ≠ 2 ∧ (1 : Offset) ≠ 5 ∧ (9 : Offset) ≠ 2 ∧ (9 : Offset) ≠ 5 := by decide

theorem witness_fifoPushAndPop :
    State.reset.xferActive = false ∧ State.reset.cstate ≠ .deferred ∧ State.reset.fifo = [] ∧
    ({ State.reset with fifo := List.replicate 15 0x10 } : State).fifo.length < 16 ∧
    ({ State.reset with fifo := List.replicate 16 0x10 } : State).fifo.length = 16 ∧
    asTarget.xferActive = false ∧ asTarget.fifo = [0x01, 0x02, 0x03] := by decide

theorem witness_fifoRoundTrip :
    State.reset.fifo = [] ∧ State.reset.xferActive = false ∧ State.reset.cstate ≠ .deferred ∧
    (List.replicate 16 (0x10 : Byte)).length ≤ 16 := by decide

theorem witness_pushStartsDeferred :
    deferred.xferActive = false ∧ deferred.cstate = .deferred ∧ deferred.cmdq = [0x13] ∧ opcode 0x13 = 0x13 ∧
    deferred.mode = .disconnected ∧ deferred.fifo = [0x80] ∧ (0 : TargetId).val = deferred.busId.toNat % 8 ∧
    populated deferred 0 = true ∧
    (opcode 0x13, 2) ∈ [(0x11#8, 1), (0x12#8, 1), (0x13#8, 2), (0x20#8, 2), (0x21#8, 2), (0x22#8, 1)] ∧
    valid (opcode 0x13) deferred.mode = true ∧ 2 ≤ deferred.fifo.length + 1 ∧ deferred.fifo.length < 16 ∧
    valid (opcode 0x13) ({ deferred with fifo := [] } : State).mode = true ∧
    ({ deferred with fifo := [] } : State).fifo.length + 1 < 2 ∧
    (opcode 0x22, 1) ∈ [(0x11#8, 1), (0x12#8, 1), (0x13#8, 2), (0x20#8, 2), (0x21#8, 2), (0x22#8, 1)] ∧
    valid (opcode 0x22) ({ asTarget with cmdq := [0x22], cstate := .deferred, fifo := [] } : State).mode = true := by decide

theorem witness_dataBytePassesThrough : (transferring 2).xferActive = true ∧ 1 < (transferring 2).xferRemaining := by decide

theorem witness_lastDataByteEndsTransfer :
    LinesAgree (transferring 1) ∧ (transferring 1).xferActive = true ∧ (transferring 1).xferRemaining = 1 ∧
    xferWaiting (transferring 1) = true ∧
    LinesAgree { transferring 1 with cmdq := [], cstate := .idle } ∧
    xferWaiting { transferring 1 with cmdq := [], cstate := .idle } = false := by decide

theorem witness_wholeTransferRead :
    LinesAgree { transferring 2 with byteIn := [0xDE, 0xAD, 0xBE] } ∧
    IdleIffEmpty { transferring 2 with byteIn := [0xDE, 0xAD, 0xBE] } ∧
    (transferring 2).xferActive = true ∧ (transferring 2).xferRemaining = [0xDE#8, 0xAD#8].length ∧
    [0xDE#8, 0xAD#8] ≠ [] ∧
    ({ transferring 2 with byteIn := [0xDE, 0xAD, 0xBE] } : State).byteIn = [0xDE, 0xAD] ++ [0xBE] := by decide

theorem witness_illegalCommandRejected :
    LinesAgree State.reset ∧ State.reset.cmdq = [] ∧ isImmediate (opcode 0x30) = false ∧
    valid (opcode 0x30) State.reset.mode = false ∧ hasOpcode 0x32 = false ∧ hasOpcode 0x04 = false := by decide

theorem witness_secondWaitsThirdIsLost :
    isImmediate (opcode 0x10) = false ∧ (rejected []).cmdq.length = 1 ∧ (rejected [0x01]).cmdq.length = 2 := by decide

theorem witness_missingBytesDefer :
    State.reset.cmdq = [] ∧ valid (opcode 0x13) State.reset.mode = true ∧
    (opcode 0x13, 2) ∈ [(0x11#8, 1), (0x12#8, 1), (0x13#8, 2), (0x20#8, 2), (0x21#8, 2), (0x22#8, 1)] ∧
    ({ State.reset with fifo := [0x80] } : State).fifo.length < 2 ∧
    opcode 0x10 ∉ [0x11#8, 0x12#8, 0x13#8, 0x20#8, 0x21#8, 0x22#8] ∧
    exec (.wrCmd 0x10) State.reset = .next selecting :=
  ⟨by decide, by decide, by decide, by decide, by decide, rfl⟩

theorem witness_flushEndsAtOnce : State.reset.cmdq = [] ∧ State.reset.cstate = .idle := by decide

theorem witness_partialResets : LinesAgree (transferring 2) ∧ LinesAgree (rejected [0x01]) := by decide

theorem witness_fullResets : Instr.devReset false ∈ [Instr.devReset false, .hreset] ∧ Instr.hreset ∈ [Instr.devReset true, .hreset] := by
  decide

theorem witness_resetsTotalAndIdempotent :
    Instr.busReset true ∈ [Instr.reset true, .busReset true, .devReset true, .hreset] ∧
    FifoFits { transferring 2 with fifo := List.replicate 16 0x10 } := by decide

theorem witness_selectOfEmptySlot :
    (Instr.selAtnXfer true, 0x13#8, 2) ∈
      [(Instr.select true, 0x10#8, 0), (.selXfer true, 0x11#8, 1), (.selAtn true, 0x12#8, 1), (.selAtnXfer true, 0x13#8, 2)] ∧
    State.reset.cmdq = [] ∧ State.reset.mode = .disconnected ∧
    2 ≤ ({ State.reset with fifo := [0x80, 0x00] } : State).fifo.length ∧ 0 ≤ State.reset.fifo.length ∧
    (0 : TargetId).val = State.reset.busId.toNat % 8 ∧ populated State.reset 0 = false ∧
    (7 : TargetId).val = ({ State.reset with busId := 0xFF } : State).busId.toNat % 8 ∧
    populated { State.reset with busId := 0xFF } 7 = false := by decide

theorem witness_selectOfPopulatedSlot :
    (Instr.selXfer true, 0x11#8, 1) ∈
      [(Instr.select true, 0x10#8, 0), (.selXfer true, 0x11#8, 1), (.selAtn true, 0x12#8, 1), (.selAtnXfer true, 0x13#8, 2)] ∧
    withDevice.cmdq = [] ∧ withDevice.mode = .disconnected ∧
    1 ≤ ({ withDevice with fifo := [0x12] } : State).fifo.length ∧
    (0 : TargetId).val = withDevice.busId.toNat % 8 ∧ populated withDevice 0 = true := by decide

theorem witness_selectTimesOutOnce :
    (Instr.select false, 0x10#8, 0) ∈
      [(Instr.select false, 0x10#8, 0), (.selXfer false, 0x11#8, 1), (.selAtn false, 0x12#8, 1), (.selAtnXfer false, 0x13#8, 2)] ∧
    LinesAgree State.reset ∧ DisconnectedQuiet State.reset ∧ State.reset.int = 0b00000#5 ∧ State.reset.cmdq = [] ∧
    State.reset.mode = .disconnected ∧ 0 ≤ State.reset.fifo.length ∧
    (0 : TargetId).val = State.reset.busId.toNat % 8 ∧ populated State.reset 0 = false ∧
    8191 < selDelay State.reset.units State.reset.timeout State.reset.ccf := by decide

theorem witness_selectWithTransferCompletes :
    LinesAgree { withDevice with fifo := [0xC0, 0x08] } ∧ DisconnectedQuiet { withDevice with fifo := [0xC0, 0x08] } ∧
    withDevice.int = 0b00000#5 ∧ withDevice.cmdq = [] ∧ withDevice.mode = .disconnected ∧
    ({ withDevice with fifo := [0xC0, 0x08] } : State).fifo = 0xC0 :: [0x08] ∧ [0x08#8] ≠ [] ∧
    (0 : TargetId).val = withDevice.busId.toNat % 8 ∧ populated withDevice 0 = true := by decide

theorem witness_targetCommandStarts :
    (Instr.tSendData false, 0x20#8, 2) ∈
      [(Instr.tSendData false, 0x20#8, 2), (.tSendStat false, 0x21#8, 2), (.tReselect false, 0x22#8, 1)] ∧
    asTarget.cmdq = [] ∧ asTarget.mode = .target ∧ 2 ≤ ({ asTarget with fifo := [0x01, 0x02] } : State).fifo.length ∧
    1 ≤ ({ asTarget with fifo := [0x01] } : State).fifo.length := by decide

theorem witness_connectionEnds :
    (Instr.tDisconnect true, 0x23#8, Mode.target) ∈
      [(Instr.tDisconnect true, 0x23#8, Mode.target), (.release true, 0x31#8, Mode.initiator)] ∧
    LinesAgree asTarget ∧ asTarget.cmdq = [] ∧ asTarget.mode = .target ∧
    LinesAgree asInitiator ∧ asInitiator.cmdq = [] ∧ asInitiator.mode = .initiator := by decide

theorem witness_xferStarts :
    LinesAgree { asInitiator with phase := .data, xferRemaining := 1 } ∧ asInitiator.cmdq = [] ∧
    asInitiator.mode = .initiator ∧ 0 < ({ asInitiator with phase := .data, xferRemaining := 1 } : State).xferRemaining ∧
    LinesAgree asInitiator ∧ asInitiator.phase ≠ .data ∧ ({ asInitiator with phase := .data } : State).xferRemaining = 0 := by
  decide

theorem witness_interruptStatusRead :
    LinesAgree State.reset ∧ State.reset.int = 0b00000#5 ∧
    LinesAgree { selecting with int := 0b10000, irq := true } ∧ selecting.cstate ≠ .completed ∧
    LinesAgree (rejected []) ∧ (rejected []).int ≠ 0b00000#5 ∧ (rejected []).cmdq = [0x30] ∧
    (rejected []).cstate = .completed := by decide

theorem witness_chainedCommandStarts :
    LinesAgree (rejected [0x10]) ∧ (rejected [0x10]).int ≠ 0b00000#5 ∧ (rejected [0x10]).cmdq = [0x30, 0x10] ∧
    (rejected [0x10]).cstate = .completed ∧ isImmediate (opcode 0x10) = false := by decide

theorem witness_chainedIllegalRaisesAgain :
    LinesAgree (rejected [0x31]) ∧ (rejected [0x31]).int ≠ 0b00000#5 ∧ (rejected [0x31]).cmdq = [0x30, 0x31] ∧
    (rejected [0x31]).cstate = .completed ∧ valid (opcode 0x31) (rejected [0x31]).mode = false := by decide

theorem witness_delaysOrdered : (0x00 : Byte) < 0x01 ∧ (0xFE : Byte) < 0xFF ∧ (0x01 : Byte) ≠ 0x00 := by decide

theorem witness_selectTimeoutFires :
    LinesAgree { selecting with now := 8192 } ∧ selecting.pending = some ⟨.sel, 8192⟩ ∧
    8192 ≤ ({ selecting with now := 8192 } : State).now := by decide

theorem witness_selectCompleteFires :
    LinesAgree { connecting with now := 16 } ∧ connecting.xferActive = false ∧ connecting.pending = some ⟨.cc, 16⟩ ∧
    16 ≤ ({ connecting with now := 16 } : State).now ∧ connecting.cmdq = [0x13] ∧ opcode 0x13 ∈ [0x11#8, 0x13#8] ∧
    ({ connecting with cmdq := [0x10] } : State).cmdq = [0x10] ∧ opcode 0x10 ∈ [0x10#8, 0x12#8] := by decide

theorem witness_otherCompleteFires :
    LinesAgree { asInitiator with cmdq := [0x30], cstate := .executing, pending := some ⟨.cc, 16⟩, now := 16 } ∧
    (16 : Nat) ≤ 16 ∧ opcode 0x30 ∈ [0x20#8, 0x21#8, 0x22#8, 0x30#8] := by decide

theorem witness_deadlineIsMet :
    selecting.pending = some ⟨.sel, 8192⟩ ∧ selecting.now < 8192 ∧ selecting.now + 8191 < 8192 ∧
    connecting.pending = some ⟨.cc, 16⟩ ∧ connecting.now < 16 := by decide

/-- A state of mode `D` with nothing owed and no timer meets the invariant, its command idle or deferred. -/
theorem machineInv_deferred : MachineInv deferred :=
  ⟨by decide, by decide, by decide, by decide, by decide, by decide, fun _ h => absurd h (by decide), by decide⟩

theorem witness_invariantKeptByStep :
    MachineInv deferred ∧ step deferred = .next deferred :=
  ⟨machineInv_deferred, rfl⟩

theorem witness_stateSoundInEveryRun :
    Host.Core.run Sys2Proof.core 1 (powerOn ⟨0, State.reset.dev, .standard, [.stim 0x1310 0], [], [], 0⟩) = .next selecting := rfl

theorem witness_traceKeptByStep : TraceSound State.reset ∧ step State.reset = .next State.reset :=
  ⟨⟨rfl, rfl, .nil, by decide⟩, rfl⟩

theorem witness_targetModeNeverEntered :
    step asTarget = .next asTarget ∧ asTarget.mode = .target ∧
    Host.Core.run Sys2Proof.core 0 (powerOn ⟨0, State.reset.dev, .standard, [], [], [], 0⟩) = .next State.reset ∧
    0x20#8 ∈ [0x20#8, 0x21#8, 0x22#8, 0x23#8] ∧ Mode.initiator ≠ .target :=
  ⟨rfl, rfl, rfl, by decide, by decide⟩

theorem witness_initiatorModeByCompletion :
    after (exec (.adv 16) connecting) (·.mode) = some .initiator ∧ connecting.mode ≠ .initiator ∧
    after (exec .fireCc { connecting with now := 16 }) (·.mode) = some .initiator := by decide

theorem witness_commandStateMoves :
    MachineInv deferred ∧ deferred.cstate = .deferred ∧
    after (exec (.wrFifo 0x00) deferred) (·.cstate) = some .executing ∧
    after (exec (.reset false) deferred) (·.cstate) = some .idle :=
  ⟨machineInv_deferred, by decide, by decide, by decide⟩

/-- A select that runs, an ended command with one chained, an XFER that waits, and the reset state meet it too. -/
theorem machineInv_selecting : MachineInv selecting :=
  ⟨by decide, by decide, by decide, by decide, by decide, by decide, fun _ h => absurd h (by decide), by decide⟩

theorem machineInv_rejected : MachineInv (rejected [0x10]) :=
  ⟨by decide, by decide, by decide, by decide, by decide, by decide, fun _ h => absurd h (by decide), by decide⟩

theorem machineInv_transferring : MachineInv (transferring 1) :=
  ⟨by decide, by decide, by decide, by decide, by decide, by decide, fun h => absurd h (by decide), by decide⟩

theorem machineInv_reset : MachineInv State.reset :=
  ⟨by decide, by decide, by decide, by decide, by decide, by decide, fun _ h => absurd h (by decide), by decide⟩

theorem witness_commandStateMoves_executing :
    MachineInv selecting ∧ selecting.cstate = .executing ∧
    after (exec (.reset false) selecting) (·.cstate) = some .idle ∧
    MachineInv (transferring 1) ∧ (transferring 1).cstate = .executing ∧
    after (exec (.wrFifo 0x99) (transferring 1)) (·.cstate) = some .completed :=
  ⟨machineInv_selecting, by decide, by decide, machineInv_transferring, by decide, by decide⟩

theorem witness_commandStateMoves_idle_completed :
    MachineInv State.reset ∧ State.reset.cstate = .idle ∧
    after (exec (.wrCmd 0x10) State.reset) (·.cstate) = some .executing ∧
    MachineInv (rejected [0x10]) ∧ (rejected [0x10]).cstate = .completed ∧
    after (exec .rdIntstat (rejected [0x10])) (·.cstate) = some .executing ∧
    after (exec .hreset (rejected [0x10])) (·.cstate) = some .idle :=
  ⟨machineInv_reset, by decide, by decide, machineInv_rejected, by decide, by decide, by decide⟩

theorem witness_errorFlagsSticky :
    (rejected [0x01]).ge = false ∧ after (exec (.wrCmd 0x10) (rejected [0x01])) (·.ge) = some true ∧
    after (exec (.reset false) { rejected [0x01] with ge := true }) (·.ge) = some false ∧
    (∀ b, Instr.rdStat ≠ .parity b) ∧ isFullReset .rdStat = false := by decide

theorem witness_writeSideRegistersKept :
    after (exec .fireSel { selecting with now := 8192, tc := 0x1234 }) (·.tc) = some 0x0000 ∧ isFullReset .fireSel = false := by
  decide

theorem witness_ignoredBitsUnobservable : Instr.rdStat ≠ .rdConfig ∧ Instr.select false ≠ .rdConfig := by decide

theorem witness_parametersFixedOutputsGrow : exec (.adv 3) State.reset = .next { State.reset with now := 3 } := rfl

theorem witness_deviceCallsOfOneOperation :
    after (exec (.wrFifo 0x00) deferred) (fun s => (s.calls, s.cstate)) = some ([.execute 0 [0x00]], .executing) ∧
    after (exec .rdFifo { transferring 2 with byteIn := [0xDE] }) (·.calls) = some [.readData 0] ∧
    after (exec (.wrFifo 0x99) (transferring 2)) (·.calls) = some [.writeData 0 0x99] := by decide

end Sys2Proof.Tests
end

section
/-! SUPPORT. What a dispatch, the time advance and one operation can do, each said once as an inversion. -/

namespace Sys2Proof.Machine

open Host (Outcome)

/-! ## Dispatch -/

/-- How `dispatch()` leads from one state to another: one constructor per end of R189 to R192, with the guards that
lead there, and the FLUSH that ends and dispatches what waits behind it (R194, R217). -/
inductive Dispatched : State → State → Prop
  | reject {s : State} (hv : valid (opcode (slot0 s)) s.mode = false) : Dispatched s (rejectIllegal s)
  | defer {s : State} (hv : valid (opcode (slot0 s)) s.mode = true)
      (hl : s.fifo.length < need (opcode (slot0 s))) : Dispatched s (defer s)
  | flushNothing {s : State} (hq : s.cmdq = []) : Dispatched s { s with fifo := [], cstate := .completed }
  | flushLast {s : State} {v : Byte} (hq : s.cmdq = [v]) :
      Dispatched s { s with fifo := [], cmdq := [], cstate := .idle }
  | flushChain {s t : State} {v w : Byte} {rest : List Byte} (hq : s.cmdq = v :: w :: rest)
      (h : Dispatched { s with fifo := [], cmdq := w :: rest, cstate := .completed } t) : Dispatched s t
  | select {s : State} (hc : isSelect (opcode (slot0 s)) = true) (hm : s.mode = .disconnected) :
      Dispatched s (selectStart (opcode (slot0 s)) s)
  | target {s : State} (hc : opcode (slot0 s) = 0x20#8 ∨ opcode (slot0 s) = 0x21#8 ∨ opcode (slot0 s) = 0x22#8)
      (hm : s.mode = .target) : Dispatched s (targetStart (need (opcode (slot0 s))) s)
  | connection {s : State} (hm : s.mode = .target ∨ s.mode = .initiator) : Dispatched s (endConnection s)
  | xfer {s : State} (hc : opcode (slot0 s) = 0x30#8) (hm : s.mode = .initiator) : Dispatched s (doXfer s)
  | immediate {s : State} (hc : isImmediate (opcode (slot0 s)) = true) : Dispatched s s

theorem dispatched_dispatch (s : State) : Dispatched s (dispatch s) := by
  induction hn : s.cmdq.length using Nat.strongRecOn generalizing s with
  | _ n ih =>
    rcases dispatch_cases s with ⟨hv, h⟩ | ⟨hv, hl, h⟩ | ⟨-, ⟨-, h⟩ | ⟨hc, hm, h⟩ | ⟨hc, hm, h⟩ | ⟨-, hm, h⟩ |
      ⟨hc, hm, h⟩ | ⟨-, hm, h⟩ | ⟨hc, h⟩⟩ <;> rw [h]
    · exact .reject hv
    · exact .defer hv hl
    · rcases popAndChain_cases { s with fifo := [], cstate := .completed } with
        ⟨hq | hc, h'⟩ | ⟨v, hq, -, h'⟩ | ⟨v, w, rest, hq, -, h'⟩
      · rw [h']
        exact .flushNothing hq
      · exact absurd rfl hc
      · rw [h']
        exact .flushLast hq
      · have hq : s.cmdq = v :: w :: rest := hq
        rw [h']
        exact .flushChain hq (ih _ (by simp [← hn, hq]) _ rfl)
    · exact .select hc hm
    · exact .target hc hm
    · exact .connection (.inl hm)
    · exact .xfer hc hm
    · exact .connection (.inr hm)
    · exact .immediate hc

/-! ## The data path -/

/-- Everything `data_done()` can do, after the count is looked at (R176 to R178). -/
theorem endIfDone_cases (s : State) :
    (0 < s.xferRemaining ∧ endIfDone s = s) ∨
    (s.xferRemaining = 0 ∧ xferWaiting s = true ∧
      endIfDone s = updateLines { setCause .commandComplete s with
        xferActive := false, phase := .status, cstate := .completed }) ∨
    (s.xferRemaining = 0 ∧ xferWaiting s = false ∧
      endIfDone s = updateLines { s with xferActive := false, phase := .status }) := by
  unfold endIfDone dataDone
  by_cases hr : s.xferRemaining = 0
  · cases hw : xferWaiting s
    · exact .inr (.inr ⟨hr, rfl, by simp [hr]⟩)
    · exact .inr (.inl ⟨hr, rfl, by simp [hr]⟩)
  · exact .inl ⟨Nat.pos_of_ne_zero hr, if_neg hr⟩

/-! ## The time advance -/

@[simp] theorem fire_now (s : State) : (fire s).now = s.now := by
  rcases fire_cases s with ⟨-, h⟩ | ⟨_, -, h⟩ | ⟨_, -, h⟩ <;> rw [h]
  · rfl
  · rw [onCommandComplete_eq]
    split <;> rfl

@[simp] theorem fire_pending (s : State) : (fire s).pending = none := by
  rcases fire_cases s with ⟨hp, h⟩ | ⟨_, -, h⟩ | ⟨_, -, h⟩ <;> rw [h]
  · exact hp
  · rfl
  · rw [onCommandComplete_eq]
    split <;> rfl

/-- With nothing pending time only passes (R297). -/
theorem advance_of_none {s : State} (hp : s.pending = none) (n : Nat) :
    advance n s = { s with now := s.now + n } := by
  induction n generalizing s with
  | zero => rfl
  | succ n ih =>
    have hcycle : cycle s = tick s := by simp [cycle, due_of_none (s := tick s) hp]
    calc advance (n + 1) s = advance n (tick s) := congrArg (advance n) hcycle
      _ = { s with now := s.now + 1 + n } := ih (s := tick s) hp
      _ = { s with now := s.now + (n + 1) } := by rw [Nat.add_right_comm, Nat.add_assoc]

/-- Everything `ADV n` can do: time passes, and at one moment at most a completion fires (R297). -/
theorem advance_cases (n : Nat) (s : State) :
    advance n s = { s with now := s.now + n } ∨
    ∃ k, s.now < k ∧ k ≤ s.now + n ∧ advance n s = { fire { s with now := k } with now := s.now + n } := by
  induction n generalizing s with
  | zero => exact .inl rfl
  | succ n ih =>
    have hnow : s.now + 1 + n = s.now + (n + 1) := by omega
    by_cases hd : due (tick s) = true
    · have hcycle : cycle s = fire (tick s) := by simp [cycle, hd]
      refine .inr ⟨s.now + 1, by omega, by omega, ?_⟩
      rw [advance, hcycle, advance_of_none (fire_pending _), fire_now, ← hnow]
      rfl
    · have hcycle : cycle s = tick s := by simp [cycle, hd]
      rw [advance, hcycle]
      rcases ih (tick s) with h | ⟨k, hk, hkn, h⟩
      · exact .inl (by rw [h, ← hnow]; rfl)
      · have hk : s.now + 1 < k := hk
        have hkn : k ≤ s.now + 1 + n := hkn
        exact .inr ⟨k, by omega, by omega, by rw [h, ← hnow]; rfl⟩

/-! ## One operation -/

/-- What an operation leaves, by the shared operation that makes it: a command byte, a store, a read without a side
effect, the two accesses of the FIFO data register, the acknowledging read, and the events. -/
inductive Effect (s : State) : Instr → State → Prop
  | command {i : Instr} {v : Byte} (hi : submitted i = some v) : Effect s i (submit v s)
  | store {i : Instr} {t : State} (hi : plainStore s i = some t) : Effect s i t
  | view {i : Instr} (off : Offset) (v : Byte)
      (hi : i ∈ [.rdTcl, .rdTch, .rdCmd, .rdStat, .rdSeq, .rdFflags, .rdConfig, .rdCcf]) :
      Effect s i (returnByte off v s)
  | pop (hx : s.xferActive = false) : Effect s .rdFifo (returnByte 0x2 (fifoFront s) (fifoDrop s))
  | readDevice (hx : s.xferActive = true) : Effect s .rdFifo (returnByte 0x2 (nextByte s) (dataRead s))
  | acknowledge : Effect s .rdIntstat (returnByte 0x5 (intStatusByte s) (readIntStatus s))
  | push (v : Byte) (hx : s.xferActive = false) : Effect s (.wrFifo v) (pushByte v s)
  | writeDevice (v : Byte) (hx : s.xferActive = true) : Effect s (.wrFifo v) (dataWrite v s)
  | hardReset : Effect s .hreset (doDevReset s)
  | advance (n : Nat) : Effect s (.adv n) (advance n s)
  | notDue {i : Instr} (hi : i = .fireSel ∨ i = .fireCc) : Effect s i s
  | timeout {d : Nat} (hp : s.pending = some ⟨.sel, d⟩) (hd : d ≤ s.now) : Effect s .fireSel (fire s)
  | complete {d : Nat} (hp : s.pending = some ⟨.cc, d⟩) (hd : d ≤ s.now) : Effect s .fireCc (fire s)

theorem pending_of_due {k : CompletionKind} {s : State} (h : pendingKind k s = true ∧ due s = true) :
    ∃ d, s.pending = some ⟨k, d⟩ ∧ d ≤ s.now := by
  obtain ⟨hk, hd⟩ := h
  cases hp : s.pending with
  | none => simp [pendingKind, hp] at hk
  | some p =>
    obtain ⟨kind, d⟩ := p
    have hk : kind = k := by simpa [pendingKind, hp] using hk
    exact ⟨d, by rw [hk], by simpa [due_of_some hp] using hd⟩

/-- Every operation has one of these effects. -/
theorem effect_of_exec {i : Instr} {s t : State} (h : exec i s = .next t) : Effect s i t := by
  cases hi : submitted i with
  | some v =>
    rw [exec_of_submitted hi, Outcome.next.injEq] at h
    exact h ▸ .command hi
  | none =>
    cases i <;> simp only [submitted, reduceCtorEq] at hi <;> injection h with h <;> subst h
    case rdFifo =>
      cases hx : s.xferActive
      · exact .pop hx
      · exact .readDevice hx
    case rdIntstat => exact .acknowledge
    case wrFifo v =>
      cases hx : s.xferActive
      · exact .push v hx
      · exact .writeDevice v hx
    case adv n => exact .advance n
    case hreset => exact .hardReset
    case fireSel =>
      split
      next hdue =>
        obtain ⟨d, hp, hd⟩ := pending_of_due hdue
        exact .timeout hp hd
      next => exact .notDue (.inl rfl)
    case fireCc =>
      split
      next hdue =>
        obtain ⟨d, hp, hd⟩ := pending_of_due hdue
        exact .complete hp hd
      next => exact .notDue (.inr rfl)
    case rdTcl | rdTch | rdCmd | rdStat | rdSeq | rdFflags | rdConfig | rdCcf => exact .view _ _ (by simp)
    all_goals exact .store rfl

end Sys2Proof.Machine
end

section
/-! SUPPORT. What an operation leaves alone: the parameters and what was output before, the written registers, time and
the bus mode; and which device calls it makes. -/

namespace Sys2Proof.Machine

open Host (Outcome)

/-! ## Plain stores -/

/-- A plain store changes nothing but written registers and the parity flag. -/
theorem plainStore_eq {s u : State} {i : Instr} (h : plainStore s i = some u) :
    u = { s with
      tc := u.tc, busId := u.busId, timeout := u.timeout, syncPeriod := u.syncPeriod, syncOffset := u.syncOffset
      config := u.config, ccf := u.ccf, pe := u.pe } := by
  cases i <;> cases h <;> rfl

/-! ## Parameters and outputs -/

/-- The parameters and the stimuli waiting are those of `s`, and the outputs extend those of `s`. -/
structure OutputsExtend (s t : State) : Prop where
  dev : t.dev = s.dev
  units : t.units = s.units
  inbox : t.inbox = s.inbox
  reads : s.reads <+: t.reads
  edges : s.edges <+: t.edges
  calls : s.calls <+: t.calls

theorem OutputsExtend.refl (s : State) : OutputsExtend s s :=
  ⟨rfl, rfl, rfl, List.prefix_rfl, List.prefix_rfl, List.prefix_rfl⟩

theorem OutputsExtend.trans {s t u : State} (h : OutputsExtend s t) (k : OutputsExtend t u) : OutputsExtend s u :=
  ⟨k.dev.trans h.dev, k.units.trans h.units, k.inbox.trans h.inbox, h.reads.trans k.reads, h.edges.trans k.edges,
    h.calls.trans k.calls⟩

theorem DecoderFrame.outputsExtend {s t : State} (h : DecoderFrame s t) : OutputsExtend s t :=
  ⟨h.dev, h.units, h.inbox, h.reads ▸ List.prefix_rfl, h.edges, h.calls⟩

theorem updateLines_outputsExtend (s : State) : OutputsExtend s (updateLines s) :=
  ⟨rfl, rfl, rfl, List.prefix_rfl, List.prefix_append _ _, List.prefix_rfl⟩

theorem endIfDone_outputsExtend (s : State) : OutputsExtend s (endIfDone s) := by
  rcases endIfDone_cases s with ⟨-, h⟩ | ⟨-, -, h⟩ | ⟨-, -, h⟩ <;> rw [h]
  · exact .refl s
  · exact { updateLines_outputsExtend _ with }
  · exact { updateLines_outputsExtend _ with }

theorem callReadData_outputsExtend (s : State) : OutputsExtend s (callReadData s) :=
  ⟨rfl, rfl, rfl, List.prefix_rfl, List.prefix_rfl, List.prefix_append _ _⟩

theorem callWriteData_outputsExtend (v : Byte) (s : State) : OutputsExtend s (callWriteData v s) :=
  ⟨rfl, rfl, rfl, List.prefix_rfl, List.prefix_rfl, List.prefix_append _ _⟩

theorem returnByte_outputsExtend (off : Offset) (v : Byte) (s : State) : OutputsExtend s (returnByte off v s) :=
  ⟨rfl, rfl, rfl, List.prefix_append _ _, List.prefix_rfl, List.prefix_rfl⟩

theorem onCommandComplete_outputsExtend (s : State) : OutputsExtend s (onCommandComplete s) := by
  rw [onCommandComplete_eq]
  split
  · exact { updateLines_outputsExtend _ with }
  · exact { updateLines_outputsExtend _ with }

theorem outputsExtend_keeps (s : State) : ControllerKeeps (OutputsExtend s) where
  reject _ h := h.trans (rejectIllegal_frame _).outputsExtend
  defer _ h := { h with }
  flush _ h := { h with }
  queue _ _ h := { h with }
  idle _ h := { h with }
  select _ _ h := h.trans (selectStart_frame _ _).outputsExtend
  target _ _ h := { h with }
  connection _ h := h.trans (endConnection_frame _).outputsExtend
  xfer _ h := h.trans (doXfer_frame _).outputsExtend
  softReset _ h := h.trans { updateLines_outputsExtend (softReset _) with }
  busReset _ h := h.trans { updateLines_outputsExtend (setCause .reset (softReset _)) with }
  overrun _ h := { h with }
  acknowledge t h := h.trans { updateLines_outputsExtend { t with int := 0b00000#5 } with }
  returnByte _ _ _ h := h.trans (returnByte_outputsExtend _ _ _)
  fifoDrop _ h := { h with }
  fifoPush _ _ h := { h with }
  dataRead _ h := (h.trans (callReadData_outputsExtend _)).trans (endIfDone_outputsExtend _)
  dataWrite _ _ h := (h.trans (callWriteData_outputsExtend _ _)).trans (endIfDone_outputsExtend _)
  tick _ h := { h with }
  timeout _ h := h.trans { updateLines_outputsExtend _ with }
  complete _ h := h.trans { onCommandComplete_outputsExtend (cancel _) with }

theorem exec_outputsExtend {i : Instr} {s t : State} (h : exec i s = .next t) : OutputsExtend s t := by
  have hfull : OutputsExtend s (doDevReset s) := { updateLines_outputsExtend (fullReset s) with }
  have hstore : ∀ u, plainStore s i = some u → OutputsExtend s u := fun u hu => by
    rw [plainStore_eq hu]
    exact { OutputsExtend.refl s with }
  exact exec_keeps (outputsExtend_keeps s) i s t (fun _ => hfull) hstore h (.refl s)

/-! ## The written registers -/

/-- The six registers that only a write changes, the transfer counter apart, are those of `s`. -/
structure RegistersKept (s t : State) : Prop where
  busId : t.busId = s.busId
  timeout : t.timeout = s.timeout
  syncPeriod : t.syncPeriod = s.syncPeriod
  syncOffset : t.syncOffset = s.syncOffset
  config : t.config = s.config
  ccf : t.ccf = s.ccf

theorem RegistersKept.trans {s t u : State} (h : RegistersKept s t) (k : RegistersKept t u) : RegistersKept s u :=
  ⟨k.busId.trans h.busId, k.timeout.trans h.timeout, k.syncPeriod.trans h.syncPeriod, k.syncOffset.trans h.syncOffset,
    k.config.trans h.config, k.ccf.trans h.ccf⟩

theorem DecoderFrame.registersKept {s t : State} (h : DecoderFrame s t) : RegistersKept s t :=
  ⟨h.busId, h.timeout, h.syncPeriod, h.syncOffset, h.config, h.ccf⟩

theorem endIfDone_registersKept (s : State) : RegistersKept s (endIfDone s) := by
  rcases endIfDone_cases s with ⟨-, h⟩ | ⟨-, -, h⟩ | ⟨-, -, h⟩ <;> rw [h] <;> exact ⟨rfl, rfl, rfl, rfl, rfl, rfl⟩

theorem onCommandComplete_registersKept (s : State) : RegistersKept s (onCommandComplete s) := by
  rw [onCommandComplete_eq]
  split <;> exact ⟨rfl, rfl, rfl, rfl, rfl, rfl⟩

theorem registersKept_keeps (s : State) : ControllerKeeps (RegistersKept s) where
  reject _ h := { h with }
  defer _ h := { h with }
  flush _ h := { h with }
  queue _ _ h := { h with }
  idle _ h := { h with }
  select _ _ h := h.trans (selectStart_frame _ _).registersKept
  target _ _ h := { h with }
  connection _ h := { h with }
  xfer _ h := h.trans (doXfer_frame _).registersKept
  softReset _ h := { h with }
  busReset _ h := { h with }
  overrun _ h := { h with }
  acknowledge _ h := { h with }
  returnByte _ _ _ h := { h with }
  fifoDrop _ h := { h with }
  fifoPush _ _ h := { h with }
  dataRead _ h := h.trans { endIfDone_registersKept (callReadData _) with }
  dataWrite _ _ h := h.trans { endIfDone_registersKept (callWriteData _ _) with }
  tick _ h := { h with }
  timeout _ h := { h with }
  complete _ h := h.trans { onCommandComplete_registersKept (cancel _) with }

/-! ## The transfer counter, time and the bus mode -/

/-- What every operation but a store, a full reset and the passing of time does to the transfer counter, to time and
to the bus mode. -/
structure HostFrame (s t : State) : Prop where
  tc : t.tc = s.tc
  now : t.now = s.now
  mode : t.mode = s.mode ∨ t.mode = .disconnected

theorem DecoderFrame.hostFrame {s t : State} (h : DecoderFrame s t) : HostFrame s t := ⟨h.tc, h.now, h.mode⟩

theorem endIfDone_hostFrame (s : State) : HostFrame s (endIfDone s) := by
  rcases endIfDone_cases s with ⟨-, h⟩ | ⟨-, -, h⟩ | ⟨-, -, h⟩ <;> rw [h] <;> exact ⟨rfl, rfl, .inl rfl⟩

theorem submit_hostFrame {v : Byte} (s : State) (hv : opcode v ≠ 0x02#8) : HostFrame s (submit v s) := by
  rcases submit_cases v s with ⟨-, h⟩ | ⟨h2, -⟩ | ⟨-, h⟩ | ⟨-, ⟨-, h⟩ | ⟨-, h⟩ | ⟨-, -, h⟩⟩
  · exact h ▸ ⟨rfl, rfl, .inr rfl⟩
  · exact absurd h2 hv
  · exact h ▸ ⟨rfl, rfl, .inr rfl⟩
  · exact h ▸ ⟨rfl, rfl, .inl rfl⟩
  · exact h ▸ { (dispatch_frame { s with cmdq := [v] }).hostFrame with }
  · exact h ▸ ⟨rfl, rfl, .inl rfl⟩

theorem readIntStatus_hostFrame (s : State) : HostFrame s (readIntStatus s) := by
  rw [readIntStatus_eq]
  split
  · exact ⟨rfl, rfl, .inl rfl⟩
  · exact { (popAndChain_frame (acknowledge s)).hostFrame with }

theorem pushByte_hostFrame (v : Byte) (s : State) : HostFrame s (pushByte v s) := by
  unfold pushByte
  split
  · exact { (dispatch_frame (fifoPush v s)).hostFrame with }
  · exact ⟨rfl, rfl, .inl rfl⟩

/-- The operations in which time passes or a completion fires. -/
def isTimed : Instr → Bool
  | .adv _ | .fireSel | .fireCc => true
  | _ => false

/-- An operation in which no completion can fire is a full reset, a store, or leaves counter, time and mode. -/
theorem Effect.untimed {i : Instr} {s t : State} (h : Effect s i t) (hi : isTimed i = false) :
    (isFullReset i = true ∧ t = doDevReset s) ∨ plainStore s i = some t ∨ HostFrame s t := by
  cases h with
  | @command _ v hsub =>
    by_cases hv : opcode v = 0x02#8
    · exact .inl ⟨by simp [isFullReset, hsub, hv], by simp [submit, hv]⟩
    · exact .inr (.inr (submit_hostFrame s hv))
  | store hst => exact .inr (.inl hst)
  | view off v _ => exact .inr (.inr ⟨rfl, rfl, .inl rfl⟩)
  | pop _ => exact .inr (.inr ⟨rfl, rfl, .inl rfl⟩)
  | readDevice _ => exact .inr (.inr { endIfDone_hostFrame (callReadData s) with })
  | acknowledge => exact .inr (.inr { readIntStatus_hostFrame s with })
  | push v _ => exact .inr (.inr (pushByte_hostFrame v s))
  | writeDevice v _ => exact .inr (.inr { endIfDone_hostFrame (callWriteData v s) with })
  | hardReset => exact .inl ⟨rfl, rfl⟩
  | advance n => cases hi
  | notDue hf => rcases hf with rfl | rfl <;> cases hi
  | timeout _ _ => cases hi
  | complete _ _ => cases hi

/-- An operation of the timer lets time pass, does nothing, or delivers the completion of its kind. -/
theorem Effect.timed {i : Instr} {s t : State} (h : Effect s i t) (hi : isTimed i = true) :
    (∃ n, i = .adv n ∧ t = Machine.advance n s) ∨ t = s ∨
    (i = .fireSel ∧ t = fire s ∧ ∃ d, s.pending = some ⟨.sel, d⟩) ∨
    (i = .fireCc ∧ t = fire s ∧ ∃ d, s.pending = some ⟨.cc, d⟩) := by
  cases h with
  | command hsub => cases i <;> simp [isTimed, submitted] at hi hsub
  | store hst => cases i <;> simp [isTimed, plainStore] at hi hst
  | view _ _ hv => cases i <;> simp [isTimed] at hi hv
  | advance n => exact .inl ⟨n, rfl, rfl⟩
  | notDue _ => exact .inr (.inl rfl)
  | timeout hp _ => exact .inr (.inr (.inl ⟨rfl, rfl, _, hp⟩))
  | complete hp _ => exact .inr (.inr (.inr ⟨rfl, rfl, _, hp⟩))
  | pop | readDevice | acknowledge | push | writeDevice | hardReset => cases hi

/-! ## A completion -/

theorem fire_tc (s : State) :
    (fire s).tc = s.tc ∨ ((fire s).tc = 0x0000#16 ∧ ∃ d, s.pending = some ⟨.sel, d⟩) := by
  rcases fire_cases s with ⟨-, h⟩ | ⟨d, hp, h⟩ | ⟨_, -, h⟩ <;> rw [h]
  · exact .inl rfl
  · exact .inr ⟨rfl, d, hp⟩
  · rw [onCommandComplete_eq]
    split <;> exact .inl rfl

/-- Only a Command-Complete leads into mode `I` (R295). -/
theorem fire_initiator {s : State} (hs : s.mode ≠ .initiator) (ht : (fire s).mode = .initiator) :
    ∃ d, s.pending = some ⟨.cc, d⟩ := by
  rcases fire_cases s with ⟨-, h⟩ | ⟨_, -, h⟩ | ⟨d, hp, -⟩
  · exact absurd (h ▸ ht) hs
  · rw [h] at ht
    cases ht
  · exact ⟨d, hp⟩

@[simp] theorem fire_calls (s : State) : (fire s).calls = s.calls := by
  rcases fire_cases s with ⟨-, h⟩ | ⟨_, -, h⟩ | ⟨_, -, h⟩ <;> rw [h]
  · rfl
  · rw [onCommandComplete_eq]
    split <;> rfl

theorem advance_now (n : Nat) (s : State) : (advance n s).now = s.now + n := by
  rcases advance_cases n s with h | ⟨_, -, -, h⟩ <;> rw [h]

theorem advance_calls (n : Nat) (s : State) : (advance n s).calls = s.calls := by
  rcases advance_cases n s with h | ⟨_, -, -, h⟩ <;> rw [h]
  exact fire_calls _

/-! ## The registers, the transfer counter and time over one operation -/

theorem exec_of_plainStore {i : Instr} {s u : State} (h : plainStore s i = some u) : exec i s = .next u := by
  cases i <;> cases h <;> rfl

theorem exec_registersKept {i : Instr} {s t : State} (h : exec i s = .next t) (hfull : isFullReset i = false)
    (hstore : plainStore s i = none) : RegistersKept s t :=
  exec_keeps (registersKept_keeps s) i s t (fun hf => by simp [hfull] at hf) (fun u hu => by simp [hstore] at hu) h
    ⟨rfl, rfl, rfl, rfl, rfl, rfl⟩

theorem exec_tc {i : Instr} {s t : State} (h : exec i s = .next t) (hfull : isFullReset i = false)
    (hstore : plainStore s i = none) :
    t.tc = s.tc ∨ (t.tc = 0x0000#16 ∧ ∃ d, s.pending = some ⟨.sel, d⟩) := by
  cases hi : isTimed i with
  | false =>
    rcases (effect_of_exec h).untimed hi with ⟨hf, -⟩ | hst | hframe
    · simp [hfull] at hf
    · simp [hstore] at hst
    · exact .inl hframe.tc
  | true =>
    rcases (effect_of_exec h).timed hi with ⟨n, rfl, rfl⟩ | rfl | ⟨-, rfl, -⟩ | ⟨-, rfl, -⟩
    · rcases advance_cases n s with h | ⟨k, -, -, h⟩ <;> rw [h]
      · exact .inl rfl
      · exact fire_tc { s with now := k }
    · exact .inl rfl
    · exact fire_tc s
    · exact fire_tc s

theorem exec_now {i : Instr} {s t : State} (h : exec i s = .next t) (hadv : ∀ n, i ≠ .adv n) : t.now = s.now := by
  cases hi : isTimed i with
  | false =>
    rcases (effect_of_exec h).untimed hi with ⟨-, rfl⟩ | hst | hframe
    · rfl
    · rw [plainStore_eq hst]
    · exact hframe.now
  | true =>
    rcases (effect_of_exec h).timed hi with ⟨n, hn, -⟩ | rfl | ⟨-, rfl, -⟩ | ⟨-, rfl, -⟩
    · exact absurd hn (hadv n)
    · rfl
    · exact fire_now s
    · exact fire_now s

/-! ## Device calls -/

/-- From `s` to `t` no device was called, or the populated slot selected was called once by a command now running. -/
def ExecutesAtMostOnce (s t : State) : Prop :=
  t.calls = s.calls ∨
  ∃ cdb, t.calls = s.calls ++ [.execute t.selTarget cdb] ∧ t.cstate = .executing ∧ populated s t.selTarget = true

theorem selectStart_executesAtMostOnce (c : Byte) (s : State) : ExecutesAtMostOnce s (selectStart c s) := by
  rw [selectStart_eq]
  split
  next hpop => exact .inr ⟨_, rfl, rfl, hpop⟩
  next => exact .inl rfl

theorem Dispatched.executesAtMostOnce {s t : State} (h : Dispatched s t) : ExecutesAtMostOnce s t := by
  induction h with
  | flushChain hq _ ih => exact ih
  | @select s _ _ => exact selectStart_executesAtMostOnce _ s
  | @xfer s _ _ =>
    unfold doXfer
    split <;> exact .inl rfl
  | reject | defer | flushNothing | flushLast | target | connection | immediate => exact .inl rfl

theorem dispatch_executesAtMostOnce (s : State) : ExecutesAtMostOnce s (dispatch s) :=
  (dispatched_dispatch s).executesAtMostOnce

theorem submit_executesAtMostOnce (v : Byte) (s : State) : ExecutesAtMostOnce s (submit v s) := by
  rcases submit_cases v s with ⟨-, h⟩ | ⟨-, h⟩ | ⟨-, h⟩ | ⟨-, ⟨-, h⟩ | ⟨-, h⟩ | ⟨-, -, h⟩⟩ <;> rw [h]
  · exact .inl rfl
  · exact .inl rfl
  · exact .inl rfl
  · exact .inl rfl
  · exact dispatch_executesAtMostOnce { s with cmdq := [v] }
  · exact .inl rfl

theorem popAndChain_executesAtMostOnce (s : State) : ExecutesAtMostOnce s (popAndChain s) := by
  rcases popAndChain_cases s with ⟨-, h⟩ | ⟨_, -, -, h⟩ | ⟨_, w, rest, -, -, h⟩ <;> rw [h]
  · exact .inl rfl
  · exact .inl rfl
  · exact dispatch_executesAtMostOnce { s with cmdq := w :: rest }

theorem readIntStatus_executesAtMostOnce (s : State) : ExecutesAtMostOnce s (readIntStatus s) := by
  rw [readIntStatus_eq]
  split
  · exact .inl rfl
  · exact popAndChain_executesAtMostOnce (acknowledge s)

theorem pushByte_executesAtMostOnce (v : Byte) (s : State) : ExecutesAtMostOnce s (pushByte v s) := by
  unfold pushByte
  split
  · exact dispatch_executesAtMostOnce (fifoPush v s)
  · exact .inl rfl

@[simp] theorem endIfDone_calls (s : State) : (endIfDone s).calls = s.calls := by
  rcases endIfDone_cases s with ⟨-, h⟩ | ⟨-, -, h⟩ | ⟨-, -, h⟩ <;> rw [h] <;> rfl

end Sys2Proof.Machine

open Sys2Proof Sys2Proof.Machine

/-- Settles O53: an operation in which no completion can fire keeps the mode or leaves to `D`, and a completion that
leads into mode `I` is a Command-Complete. -/
theorem initiatorModeByCompletion : Obligations.InitiatorModeByCompletion := by
  unfold Obligations.InitiatorModeByCompletion
  intro i s t hexec ht hs
  cases hi : isTimed i with
  | false =>
    exfalso
    rcases (effect_of_exec hexec).untimed hi with ⟨-, rfl⟩ | hstore | hframe
    · cases ht
    · rw [plainStore_eq hstore] at ht
      exact hs ht
    · rcases hframe.mode with hm | hm
      · exact hs (hm ▸ ht)
      · rw [hm] at ht
        cases ht
  | true =>
    rcases (effect_of_exec hexec).timed hi with ⟨n, rfl, rfl⟩ | rfl | ⟨-, rfl, d, hsel⟩ | ⟨rfl, -, hcc⟩
    · refine ⟨.inl ⟨n, rfl⟩, ?_⟩
      rcases advance_cases n s with h | ⟨k, -, -, h⟩ <;> rw [h] at ht
      · exact absurd ht hs
      · exact fire_initiator (s := { s with now := k }) hs ht
    · exact absurd ht hs
    · obtain ⟨d', hcc⟩ := fire_initiator hs ht
      simp [hsel] at hcc
    · exact ⟨.inr rfl, hcc⟩

/-- Settles O56: a plain store writes its own register, and every other operation keeps the six registers; the
transfer counter is cleared only by a Select-Timeout. -/
theorem writeSideRegistersKept : Obligations.WriteSideRegistersKept := by
  unfold Obligations.WriteSideRegistersKept
  intro i s t hexec hfull
  cases hstore : plainStore s i with
  | some u =>
    cases exec_of_plainStore hstore ▸ hexec
    cases i <;> cases hstore <;> simp
  | none =>
    obtain ⟨hb, ht, hp, ho, hc, hf⟩ := exec_registersKept hexec hfull hstore
    exact ⟨fun _ => hb, fun _ => ht, fun _ => hp, fun _ => ho, fun _ => hc, fun _ => hf,
      fun _ _ => exec_tc hexec hfull hstore⟩

/-- Settles O58: every part of the controller keeps the parameters and extends the outputs; time stands still but in a
time advance. -/
theorem parametersFixedOutputsGrow : Obligations.ParametersFixedOutputsGrow := by
  unfold Obligations.ParametersFixedOutputsGrow
  intro i s t hexec
  obtain ⟨hdev, hunits, hinbox, hreads, hedges, hcalls⟩ := exec_outputsExtend hexec
  refine ⟨hdev, hunits, hinbox, hreads, hedges, hcalls, ?_⟩
  split
  next n =>
    cases hexec
    exact advance_now n s
  next hadv => exact exec_now hexec fun n => hadv n

/-- Settles O59: a dispatch starts one select at most, the two accesses of offset 0x2 make the one call of the data
path, and a completion makes none. -/
theorem deviceCallsOfOneOperation : Obligations.DeviceCallsOfOneOperation := by
  unfold Obligations.DeviceCallsOfOneOperation
  intro i s t hexec
  cases effect_of_exec hexec with
  | command hi => exact (submit_executesAtMostOnce _ s).imp_right .inl
  | store hst => exact .inl (by rw [plainStore_eq hst])
  | view off v _ => exact .inl rfl
  | pop _ => exact .inl rfl
  | readDevice hx => exact .inr (.inr (.inl ⟨rfl, hx, endIfDone_calls (callReadData s)⟩))
  | acknowledge => exact (readIntStatus_executesAtMostOnce s).imp_right .inl
  | push v _ => exact (pushByte_executesAtMostOnce v s).imp_right .inl
  | writeDevice v hx => exact .inr (.inr (.inr ⟨v, rfl, hx, endIfDone_calls (callWriteData v s)⟩))
  | hardReset => exact .inl rfl
  | advance n => exact .inl (advance_calls n s)
  | notDue _ => exact .inl rfl
  | timeout _ _ => exact .inl (fire_calls s)
  | complete _ _ => exact .inl (fire_calls s)
end

section
/-! SUPPORT. The inductive invariant taken apart: what it says of the bus and the data path, of the command register,
and of the command in slot 0 in each of the situations it can be in. -/

namespace Sys2Proof.Machine

/-! ## The parts of the invariant -/

/-- What the invariant says of the FIFO, the lines, the bus and the data path. -/
structure BusSound (s : State) : Prop where
  fifo : FifoFits s
  lines : LinesAgree s
  transfer : TransferSound s
  quiet : DisconnectedQuiet s
  sequence : SequenceKnown s
  owed : OwedByDevice s

/-- What the invariant says of the bytes in the command register. -/
structure QueueSound (s : State) : Prop where
  fits : QueueFits s
  queued : QueueQueued s

/-- Nothing is pending, and in mode `D` nothing is owed. -/
abbrev AtRest (s : State) : Prop := s.pending = none ∧ (s.mode = .disconnected → s.xferRemaining = 0)

/-- The situations that the command in slot 0 can be in. -/
inductive CommandSound (s : State) : Prop
  | idle (hc : s.cstate = .idle) (hq : s.cmdq = []) (hr : AtRest s)
  | deferred {v : Byte} {rest : List Byte} (hc : s.cstate = .deferred) (hq : s.cmdq = v :: rest) (hr : AtRest s)
      (hv : valid (opcode v) s.mode = true) (hl : s.fifo.length < need (opcode v))
  | completed {v : Byte} {rest : List Byte} (hc : s.cstate = .completed) (hq : s.cmdq = v :: rest) (hr : AtRest s)
  | timed {v : Byte} {rest : List Byte} {p : Pending} (hc : s.cstate = .executing) (hq : s.cmdq = v :: rest)
      (hp : s.pending = some p) (hd : s.now < p.deadline) (hrun : runsIn s.mode (opcode v) = true)
      (hx : s.xferActive = false) (ho : s.mode = .disconnected → 0 < s.xferRemaining → p.kind = .cc)
  | transferring {v : Byte} {rest : List Byte} (hc : s.cstate = .executing) (hq : s.cmdq = v :: rest)
      (hp : s.pending = none) (hx : s.xferActive = true) (hop : opcode v = 0x30#8)

theorem BusSound.inactive {s : State} (h : BusSound s) (hm : s.mode ≠ .initiator) : s.xferActive = false := by
  by_contra hx
  obtain ⟨-, hi, -, -⟩ := h.transfer (Bool.eq_true_of_not_eq_false hx)
  exact hm hi

theorem MachineInv.busSound {s : State} (h : MachineInv s) : BusSound s := by
  obtain ⟨⟨hfifo, -, -, hlines, htransfer, -, -, hquiet, hseq⟩, -, -, -, -, howed, -, -⟩ := h
  exact ⟨hfifo, hlines, htransfer, hquiet, hseq, howed⟩

theorem MachineInv.queueSound {s : State} (h : MachineInv s) : QueueSound s := by
  obtain ⟨⟨-, hfits, -⟩, -, -, -, hqueued, -⟩ := h
  exact ⟨hfits, hqueued⟩

theorem MachineInv.atRest {s : State} (h : MachineInv s) (hc : s.cstate ≠ .executing) : AtRest s := by
  obtain ⟨⟨-, -, -, -, -, hpending, -⟩, -, -, -, -, -, howed, -⟩ := h
  have hp : s.pending = none := by
    by_contra hp
    exact hc (hpending (Option.isSome_iff_ne_none.2 hp))
  refine ⟨hp, fun hm => Nat.eq_zero_of_not_pos fun hr => ?_⟩
  obtain ⟨p, hsome, -⟩ := howed hm hr
  simp [hp] at hsome

theorem MachineInv.commandSound {s : State} (h : MachineInv s) : CommandSound s := by
  have hrest := h.atRest
  obtain ⟨⟨-, -, hidle, -, -, -, hahead, -, -⟩, hruns, hwaits, hlacks, -, -, howed, htimer⟩ := h
  cases hq : s.cmdq with
  | nil =>
    have hc := hidle.2 hq
    exact .idle hc hq (hrest (by simp [hc]))
  | cons v rest =>
    simp only [ExecutingRuns, ExecutingWaits, DeferredLacks, slot0_cons hq] at hruns hwaits hlacks
    cases hc : s.cstate with
    | idle => simp [hidle.1 hc] at hq
    | deferred => exact .deferred hc hq (hrest (by simp [hc])) (hlacks hc).1 (hlacks hc).2
    | completed => exact .completed hc hq (hrest (by simp [hc]))
    | executing =>
      cases hp : s.pending with
      | some p =>
        refine .timed hc hq hp (hahead p hp) (hruns hc) (htimer (by simp [hp])) fun hm hr => ?_
        obtain ⟨p', hp', hcc⟩ := howed hm hr
        cases hp.symm.trans hp'
        exact hcc
      | none =>
        obtain ⟨hx, hop⟩ := (hwaits hc).resolve_left (by simp [hp])
        exact .transferring hc hq hp hx hop

/-- What runs, runs in its mode: a command that waits for the data is an XFER in mode `I`. -/
theorem CommandSound.executingRuns {s : State} (h : CommandSound s) (hb : BusSound s) : ExecutingRuns s := by
  intro hexec
  cases h with
  | timed _ hq _ _ hrun => rwa [slot0_cons hq]
  | transferring _ hq _ hx hop =>
    obtain ⟨-, hm, -, -⟩ := hb.transfer hx
    rw [slot0_cons hq, hm, hop]
    rfl
  | idle hc | deferred hc | completed hc => simp [hc] at hexec

/-- The three parts together are the invariant. -/
theorem machineInv_of_parts {s : State} (hb : BusSound s) (hq : QueueSound s) (h : CommandSound s) : MachineInv s := by
  have hruns := h.executingRuns hb
  have hidle : IdleIffEmpty s := by cases h <;> simp [IdleIffEmpty, *]
  have hpending : PendingExecuting s := by cases h <;> simp [PendingExecuting, *]
  have hahead : DeadlineAhead s := by cases h <;> simp [DeadlineAhead, *]
  have hwaits : ExecutingWaits s := by cases h <;> simp [ExecutingWaits, slot0, *]
  have hlacks : DeferredLacks s := by cases h <;> simp [DeferredLacks, slot0, *]
  have howed : OwedWhileSelecting s := by
    intro hm hr
    cases h with
    | idle _ _ h | deferred _ _ h | completed _ _ h => exact absurd (h.2 hm) hr.ne'
    | timed _ _ hp _ _ _ ho => exact ⟨_, hp, ho hm hr⟩
    | transferring _ _ _ hx =>
      obtain ⟨-, hi, -, -⟩ := hb.transfer hx
      cases hm.symm.trans hi
  have htimer : TimerOrTransfer s := by cases h <;> simp [TimerOrTransfer, *]
  exact ⟨⟨hb.fifo, hq.fits, hidle, hb.lines, hb.transfer, hpending, hahead, hb.quiet, hb.sequence⟩, hruns, hwaits,
    hlacks, hq.queued, hb.owed, howed, htimer⟩

/-- A cleared command path: nothing queued, running, pending or owed, the bus free. -/
structure Cleared (s : State) : Prop where
  queue : s.cmdq = []
  cstate : s.cstate = .idle
  pending : s.pending = none
  mode : s.mode = .disconnected
  phase : s.phase = .free
  sequence : s.cmdPhase = 0x00#8
  transfer : s.xferActive = false
  owed : s.xferRemaining = 0

theorem Cleared.machineInv {s : State} (h : Cleared s) (hf : FifoFits s) (hl : LinesAgree s) : MachineInv s := by
  have hbus : BusSound s :=
    { fifo := hf
      lines := hl
      transfer := by simp [h.transfer]
      quiet := fun _ => ⟨.inl h.phase, h.transfer⟩
      sequence := .inl h.sequence
      owed := by simp [h.owed] }
  have hqueue : QueueSound s := ⟨by simp [QueueFits, h.queue], by simp [QueueQueued, h.queue]⟩
  exact machineInv_of_parts hbus hqueue (.idle h.cstate h.queue ⟨h.pending, fun _ => h.owed⟩)

theorem machineInv_powerOn (e : Environment) : MachineInv (powerOn e) :=
  Cleared.machineInv ⟨rfl, rfl, rfl, rfl, rfl, rfl, rfl, rfl⟩ (Nat.zero_le _) ⟨rfl, rfl⟩

/-! ## Dispatch keeps the invariant -/

theorem ccfEff_pos (c : Byte) : 0 < ccfEff c := by
  unfold ccfEff
  split
  next => exact Nat.one_pos
  next hc => exact Nat.pos_of_ne_zero fun h => hc (BitVec.eq_of_toNat_eq h)

theorem ccDelay_pos (u : DelayUnits) (c : Byte) : 0 < ccDelay u c := Nat.mul_pos u.ccUnit_pos (ccfEff_pos c)

theorem selDelay_pos (u : DelayUnits) (t c : Byte) : 0 < selDelay u t c :=
  Nat.mul_pos (Nat.mul_pos (u.ccUnit_pos.trans u.ccUnit_lt) (ccfEff_pos c)) t.toNat.succ_pos

/-- A command waits in slot 0 and nothing runs: what holds wherever `dispatch()` is called. -/
structure Ready (s : State) : Prop extends BusSound s, QueueSound s where
  rest : AtRest s
  nonempty : s.cmdq ≠ []

theorem slot0_mem {s : State} (hq : s.cmdq ≠ []) : slot0 s ∈ s.cmdq := by
  obtain ⟨v, rest, hq⟩ := List.exists_cons_of_ne_nil hq
  simp [slot0_cons hq, hq]

theorem Ready.exists_slot0 {s : State} (h : Ready s) : ∃ rest, s.cmdq = slot0 s :: rest := by
  obtain ⟨v, rest, hq⟩ := List.exists_cons_of_ne_nil h.nonempty
  exact ⟨rest, by rw [slot0_cons hq, hq]⟩

theorem Ready.machineInv_selectStart {s : State} (h : Ready s) (hc : isSelect (opcode (slot0 s)) = true)
    (hm : s.mode = .disconnected) : MachineInv (selectStart (opcode (slot0 s)) s) := by
  obtain ⟨rest, hq⟩ := h.exists_slot0
  have hx : s.xferActive = false := h.inactive (by simp [hm])
  have hrun : runsIn s.mode (opcode (slot0 s)) = true := by rw [hm]; exact hc
  rw [selectStart_eq]
  split
  next hpop =>
    refine machineInv_of_parts ?_ { h.toQueueSound with }
      (.timed rfl hq rfl (Nat.lt_add_of_pos_right (ccDelay_pos _ _)) hrun hx fun _ _ => rfl)
    exact
      { fifo := Nat.zero_le _
        lines := h.lines
        transfer := fun ht => by simp [hx] at ht
        quiet := fun _ => ⟨.inr (.inr rfl), hx⟩
        sequence := .inl rfl
        owed := fun _ => hpop }
  next =>
    have hz : s.xferRemaining = 0 := h.rest.2 hm
    refine machineInv_of_parts ?_ { h.toQueueSound with }
      (.timed rfl hq rfl (Nat.lt_add_of_pos_right (selDelay_pos _ _ _)) hrun hx fun _ ho => by simp [hz] at ho)
    exact
      { fifo := h.fifo
        lines := h.lines
        transfer := fun ht => by simp [hx] at ht
        quiet := fun _ => ⟨.inr (.inl rfl), hx⟩
        sequence := .inl rfl
        owed := fun ho => by simp [hz] at ho }

theorem Ready.machineInv_targetStart {s : State} (h : Ready s) (k : Nat)
    (hc : opcode (slot0 s) = 0x20#8 ∨ opcode (slot0 s) = 0x21#8 ∨ opcode (slot0 s) = 0x22#8)
    (hm : s.mode = .target) : MachineInv (targetStart k s) := by
  obtain ⟨rest, hq⟩ := h.exists_slot0
  have hx : s.xferActive = false := h.inactive (by simp [hm])
  have hrun : runsIn s.mode (opcode (slot0 s)) = true := by simpa [hm, runsIn, or_assoc] using hc
  have hfifo : FifoFits (targetStart k s) := (List.drop_sublist k s.fifo).length_le.trans h.fifo
  exact machineInv_of_parts { h.toBusSound with fifo := hfifo } { h.toQueueSound with }
    (.timed rfl hq rfl (Nat.lt_add_of_pos_right (ccDelay_pos _ _)) hrun hx fun hd => by cases hm.symm.trans hd)

theorem Ready.machineInv_endConnection {s : State} (h : Ready s) : MachineInv (endConnection s) := by
  obtain ⟨rest, hq⟩ := h.exists_slot0
  refine machineInv_of_parts ?_ { h.toQueueSound with } (.completed rfl hq ⟨h.rest.1, fun _ => rfl⟩)
  exact
    { fifo := h.fifo
      lines := ⟨rfl, rfl⟩
      transfer := fun ht => by cases ht
      quiet := fun _ => ⟨.inl rfl, rfl⟩
      sequence := h.sequence
      owed := fun ho => absurd ho (Nat.lt_irrefl 0) }

theorem Ready.machineInv_doXfer {s : State} (h : Ready s) (hc : opcode (slot0 s) = 0x30#8) (hm : s.mode = .initiator) :
    MachineInv (doXfer s) := by
  obtain ⟨rest, hq⟩ := h.exists_slot0
  unfold doXfer
  split
  next hdata =>
    obtain ⟨hphase, howed⟩ := hdata
    refine machineInv_of_parts ?_ { h.toQueueSound with } (.transferring rfl hq h.rest.1 rfl hc)
    exact
      { fifo := h.fifo
        lines := ⟨rfl, rfl⟩
        transfer := fun _ => ⟨howed, hm, hphase, h.owed howed⟩
        quiet := fun hd => by cases hm.symm.trans hd
        sequence := h.sequence
        owed := h.owed }
  next hdata =>
    have hx : s.xferActive = false := by
      by_contra hx
      obtain ⟨howed, -, hphase, -⟩ := h.transfer (Bool.eq_true_of_not_eq_false hx)
      exact hdata ⟨hphase, howed⟩
    have hrun : runsIn s.mode (opcode (slot0 s)) = true := by simp [hm, hc, runsIn]
    exact machineInv_of_parts { h.toBusSound with } { h.toQueueSound with }
      (.timed rfl hq rfl (Nat.lt_add_of_pos_right (ccDelay_pos _ _)) hrun hx fun hd => by cases hm.symm.trans hd)

theorem Dispatched.machineInv {s t : State} (hst : Dispatched s t) : Ready s → MachineInv t := by
  induction hst with
  | reject _ =>
    intro h
    obtain ⟨rest, hq⟩ := h.exists_slot0
    exact machineInv_of_parts { h.toBusSound with lines := ⟨rfl, rfl⟩ } { h.toQueueSound with }
      (.completed rfl hq h.rest)
  | defer hv hl =>
    intro h
    obtain ⟨rest, hq⟩ := h.exists_slot0
    exact machineInv_of_parts { h.toBusSound with } { h.toQueueSound with } (.deferred rfl hq h.rest hv hl)
  | flushNothing hq => exact fun h => absurd hq h.nonempty
  | flushLast hq =>
    intro h
    exact machineInv_of_parts { h.toBusSound with fifo := Nat.zero_le _ } ⟨Nat.zero_le _, fun _ hv => by cases hv⟩
      (.idle rfl rfl h.rest)
  | @flushChain s t v w rest hq _ ih =>
    intro h
    have hfits : s.cmdq.length ≤ cmdqDepth := h.fits
    rw [hq] at hfits
    exact ih { h.toBusSound with
      fifo := Nat.zero_le _
      fits := Nat.le_of_succ_le hfits
      queued := fun x hx => h.queued x (by rw [hq]; exact List.mem_cons_of_mem v hx)
      rest := h.rest
      nonempty := List.cons_ne_nil _ _ }
  | select hc hm => exact fun h => h.machineInv_selectStart hc hm
  | target hc hm => exact fun h => h.machineInv_targetStart _ hc hm
  | connection _ => exact fun h => h.machineInv_endConnection
  | xfer hc hm => exact fun h => h.machineInv_doXfer hc hm
  | immediate hc =>
    intro h
    simp [h.queued _ (slot0_mem h.nonempty)] at hc

/-- `dispatch()` leads from wherever it is called to a state of the invariant. -/
theorem Ready.machineInv_dispatch {s : State} (h : Ready s) : MachineInv (dispatch s) :=
  (dispatched_dispatch s).machineInv h

end Sys2Proof.Machine
end

section
/-! SUPPORT. Every operation keeps the inductive invariant, and so does every run. -/

namespace Sys2Proof.Machine

open Host (Outcome)

/-! ## The resets -/

theorem machineInv_doReset {s : State} (h : MachineInv s) : MachineInv (doReset s) :=
  Cleared.machineInv ⟨rfl, rfl, rfl, rfl, rfl, rfl, rfl, rfl⟩ h.busSound.fifo ⟨rfl, rfl⟩

theorem machineInv_doBusReset {s : State} (h : MachineInv s) : MachineInv (doBusReset s) :=
  Cleared.machineInv ⟨rfl, rfl, rfl, rfl, rfl, rfl, rfl, rfl⟩ h.busSound.fifo ⟨rfl, rfl⟩

theorem machineInv_doDevReset (s : State) : MachineInv (doDevReset s) :=
  Cleared.machineInv ⟨rfl, rfl, rfl, rfl, rfl, rfl, rfl, rfl⟩ (Nat.zero_le _) ⟨rfl, rfl⟩

/-! ## The command register -/

theorem MachineInv.cmdq_ne_nil {s : State} (h : MachineInv s) (hc : s.cstate ≠ .idle) : s.cmdq ≠ [] := by
  obtain ⟨⟨-, -, hidle, -⟩, -⟩ := h
  exact fun hq => hc (hidle.2 hq)

/-- A byte that waits in slot 1 changes nothing for the command in slot 0. -/
theorem CommandSound.append {s : State} (h : CommandSound s) (hq : s.cmdq ≠ []) (w : Byte) :
    CommandSound { s with cmdq := s.cmdq ++ [w] } := by
  have hcons : ∀ {v rest}, s.cmdq = v :: rest → s.cmdq ++ [w] = v :: (rest ++ [w]) := fun h => by rw [h]; rfl
  cases h with
  | idle _ hnil => exact absurd hnil hq
  | deferred hc hq hr hv hl => exact .deferred hc (hcons hq) hr hv hl
  | completed hc hq hr => exact .completed hc (hcons hq) hr
  | timed hc hq hp hd hrun hx ho => exact .timed hc (hcons hq) hp hd hrun hx ho
  | transferring hc hq hp hx hop => exact .transferring hc (hcons hq) hp hx hop

theorem machineInv_submit {s : State} (h : MachineInv s) (v : Byte) : MachineInv (submit v s) := by
  rcases submit_cases v s with ⟨-, h'⟩ | ⟨-, h'⟩ | ⟨-, h'⟩ | ⟨hv, ⟨-, h'⟩ | ⟨hq, h'⟩ | ⟨hq, hl, h'⟩⟩ <;> rw [h']
  · exact machineInv_doReset h
  · exact machineInv_doDevReset s
  · exact machineInv_doBusReset h
  · exact h
  · have hc : s.cstate ≠ .executing := fun hc => h.cmdq_ne_nil (by simp [hc]) hq
    have hready : Ready { s with cmdq := [v] } := { h.busSound with
      fits := Nat.le_succ 1
      queued := fun x hx => by rw [List.mem_singleton.1 hx]; exact hv
      rest := h.atRest hc
      nonempty := List.cons_ne_nil _ _ }
    exact hready.machineInv_dispatch
  · have hqueue : QueueSound { s with cmdq := s.cmdq ++ [v] } :=
      { fits := by simpa [QueueFits] using hl
        queued := List.forall_mem_append.2 ⟨h.queueSound.queued, by simpa using hv⟩ }
    exact machineInv_of_parts { h.busSound with } hqueue (h.commandSound.append hq v)

theorem machineInv_acknowledge {s : State} (h : MachineInv s) : MachineInv (acknowledge s) := by
  obtain ⟨⟨hfifo, hfits, hidle, -, hrest⟩, hcommand⟩ := h
  exact ⟨⟨hfifo, hfits, hidle, ⟨rfl, rfl⟩, hrest⟩, hcommand⟩

theorem machineInv_popAndChain {s : State} (h : MachineInv s) : MachineInv (popAndChain s) := by
  rcases popAndChain_cases s with ⟨-, h'⟩ | ⟨v, -, hc, h'⟩ | ⟨v, w, rest, hq, hc, h'⟩ <;> rw [h']
  · exact h
  · exact machineInv_of_parts { h.busSound with } ⟨Nat.zero_le _, fun _ hv => by cases hv⟩
      (.idle rfl rfl (h.atRest (by simp [hc])))
  · have hfits : s.cmdq.length ≤ cmdqDepth := h.queueSound.fits
    rw [hq] at hfits
    have hready : Ready { s with cmdq := w :: rest } := { h.busSound with
      fits := Nat.le_of_succ_le hfits
      queued := fun x hx => h.queueSound.queued x (by rw [hq]; exact List.mem_cons_of_mem v hx)
      rest := h.atRest (by simp [hc])
      nonempty := List.cons_ne_nil _ _ }
    exact hready.machineInv_dispatch

theorem machineInv_readIntStatus {s : State} (h : MachineInv s) : MachineInv (readIntStatus s) := by
  rw [readIntStatus_eq]
  split
  · exact machineInv_acknowledge h
  · exact machineInv_popAndChain (machineInv_acknowledge h)

/-! ## The FIFO and the data path -/

theorem fifoFits_fifoPush {s : State} (h : FifoFits s) (v : Byte) : FifoFits (fifoPush v s) := by
  unfold FifoFits fifoPush
  split
  next hl => simpa using hl
  next => exact h

theorem machineInv_fifoDrop {s : State} (h : MachineInv s) : MachineInv (fifoDrop s) := by
  have htail : s.fifo.tail.length ≤ s.fifo.length := s.fifo.tail_sublist.length_le
  obtain ⟨⟨hfifo, hsound⟩, hruns, hwaits, hlacks, hrest⟩ := h
  have hlacks' : DeferredLacks (fifoDrop s) := fun hc => by
    obtain ⟨hv, hl⟩ := hlacks hc
    exact ⟨hv, htail.trans_lt hl⟩
  exact ⟨⟨htail.trans hfifo, hsound⟩, hruns, hwaits, hlacks', hrest⟩

theorem machineInv_pushByte {s : State} (h : MachineInv s) (v : Byte) : MachineInv (pushByte v s) := by
  have hfits := fifoFits_fifoPush h.busSound.fifo v
  unfold pushByte
  split
  next hc =>
    have hready : Ready (fifoPush v s) := { h.busSound, h.queueSound with
      fifo := hfits
      rest := h.atRest (by simp [hc])
      nonempty := h.cmdq_ne_nil (by simp [hc]) }
    exact hready.machineInv_dispatch
  next hc =>
    obtain ⟨⟨-, hsound⟩, hruns, hwaits, -, hrest⟩ := h
    exact ⟨⟨hfits, hsound⟩, hruns, hwaits, fun hd => absurd hd hc, hrest⟩

/-- One byte moved through offset 0x2, whichever way: the count, the answers and the calls move on (R176, R177). -/
def byteMoved (byteIn : List Byte) (freeCount : Nat) (calls : List DeviceCall) (s : State) : State :=
  { s with xferRemaining := s.xferRemaining - 1, byteIn := byteIn, freeCount := freeCount, calls := calls }

theorem callReadData_eq_byteMoved (s : State) :
    callReadData s = byteMoved s.byteIn.tail (s.freeCount + 1) (s.calls ++ [.readData s.selTarget]) s := rfl

theorem callWriteData_eq_byteMoved (v : Byte) (s : State) :
    callWriteData v s = byteMoved s.byteIn s.freeCount (s.calls ++ [.writeData s.selTarget v]) s := rfl

section byteMoved
variable {s : State} (byteIn : List Byte) (freeCount : Nat) (calls : List DeviceCall)

theorem CommandSound.byteMoved (h : CommandSound s) (hm : s.mode = .initiator) :
    CommandSound (byteMoved byteIn freeCount calls s) := by
  have hrest : AtRest s → AtRest (Machine.byteMoved byteIn freeCount calls s) :=
    fun hr => ⟨hr.1, fun hd => by cases hm.symm.trans hd⟩
  cases h with
  | idle hc hq hr => exact .idle hc hq (hrest hr)
  | deferred hc hq hr hv hl => exact .deferred hc hq (hrest hr) hv hl
  | completed hc hq hr => exact .completed hc hq (hrest hr)
  | timed hc hq hp hd hrun hx ho => exact .timed hc hq hp hd hrun hx fun hd => by cases hm.symm.trans hd
  | transferring hc hq hp hx hop => exact .transferring hc hq hp hx hop

/-- A byte of an active transfer moves, and the last one ends the transfer (R176 to R178). -/
theorem machineInv_endIfDone (h : MachineInv s) (hx : s.xferActive = true) :
    MachineInv (endIfDone (byteMoved byteIn freeCount calls s)) := by
  obtain ⟨-, hm, hphase, hpop⟩ := h.busSound.transfer hx
  have hqueue := h.queueSound
  have hcommand := h.commandSound.byteMoved byteIn freeCount calls hm
  rcases endIfDone_cases (byteMoved byteIn freeCount calls s) with ⟨hr, h'⟩ | ⟨-, hw, h'⟩ | ⟨-, hw, h'⟩ <;> rw [h']
  · refine machineInv_of_parts ?_ { hqueue with } hcommand
    exact { h.busSound with transfer := fun _ => ⟨hr, hm, hphase, hpop⟩, owed := fun _ => hpop }
  · refine machineInv_of_parts ?_ { hqueue with } ?_
    · exact { h.busSound with
        lines := ⟨rfl, rfl⟩
        transfer := fun ht => by cases ht
        quiet := fun hd => by cases hm.symm.trans hd
        owed := fun _ => hpop }
    · cases hcommand with
      | transferring hc hq hp _ _ => exact .completed rfl hq ⟨hp, fun hd => by cases hm.symm.trans hd⟩
      | timed _ _ _ _ _ hx' => cases hx.symm.trans hx'
      | idle hc | deferred hc | completed hc => simp [xferWaiting, hc] at hw
  · refine machineInv_of_parts ?_ { hqueue with } ?_
    · exact { h.busSound with
        lines := ⟨rfl, rfl⟩
        transfer := fun ht => by cases ht
        quiet := fun hd => by cases hm.symm.trans hd
        owed := fun _ => hpop }
    · cases hcommand with
      | idle hc hq hr => exact .idle hc hq hr
      | deferred hc hq hr hv hl => exact .deferred hc hq hr hv hl
      | completed hc hq hr => exact .completed hc hq hr
      | timed _ _ _ _ _ hx' => cases hx.symm.trans hx'
      | transferring hc hq _ _ hop => simp [xferWaiting, hc, slot0_cons hq, hop] at hw

end byteMoved

theorem machineInv_dataRead {s : State} (h : MachineInv s) (hx : s.xferActive = true) : MachineInv (dataRead s) := by
  rw [dataRead, callReadData_eq_byteMoved]
  exact machineInv_endIfDone _ _ _ h hx

theorem machineInv_dataWrite {s : State} (h : MachineInv s) (hx : s.xferActive = true) (v : Byte) :
    MachineInv (dataWrite v s) := by
  rw [dataWrite, callWriteData_eq_byteMoved]
  exact machineInv_endIfDone _ _ _ h hx

/-! ## The timer -/

/-- The Select-Timeout ends the select and leaves the bus free (R293). -/
theorem machineInv_onSelectTimeout {s : State} {v : Byte} {rest : List Byte} (hb : BusSound s) (hqueue : QueueSound s)
    (hq : s.cmdq = v :: rest) : MachineInv (onSelectTimeout (cancel s)) := by
  refine machineInv_of_parts ?_ { hqueue with } (.completed rfl hq ⟨rfl, fun _ => rfl⟩)
  exact
    { fifo := hb.fifo
      lines := ⟨rfl, rfl⟩
      transfer := fun ht => by cases ht
      quiet := fun _ => ⟨.inl rfl, rfl⟩
      sequence := .inl rfl
      owed := fun ho => absurd ho (Nat.lt_irrefl 0) }

/-- The Command-Complete ends the command in the mode it runs in; a select enters mode `I` and arms the transfer only
when bytes are owed (R294 to R296). -/
theorem machineInv_onCommandComplete {s : State} {v : Byte} {rest : List Byte} (hb : BusSound s)
    (hqueue : QueueSound s) (hq : s.cmdq = v :: rest) (hrun : runsIn s.mode (opcode v) = true)
    (hx : s.xferActive = false) : MachineInv (onCommandComplete (cancel s)) := by
  have hslot : slot0 (cancel s) = v := slot0_cons hq
  rw [onCommandComplete_eq, hslot]
  split
  next hsel =>
    refine machineInv_of_parts ?_ { hqueue with } (.completed rfl hq ⟨rfl, fun hd => by cases hd⟩)
    refine { fifo := hb.fifo, lines := ⟨rfl, rfl⟩, owed := hb.owed, transfer := ?_, quiet := ?_, sequence := ?_ }
    · intro ht
      have hr : 0 < s.xferRemaining := by
        have ht : (s.xferActive || (xferFlag (opcode v) && decide (0 < s.xferRemaining))) = true := ht
        rw [hx, Bool.false_or, Bool.and_eq_true, decide_eq_true_eq] at ht
        exact ht.2
      exact ⟨hr, rfl, if_pos hr, hb.owed hr⟩
    · exact fun hd => by cases hd
    · cases xferFlag (opcode v)
      · exact .inr (.inl rfl)
      · exact .inr (.inr rfl)
  next hsel =>
    have hd : s.mode ≠ .disconnected := fun hd => by
      rw [hd] at hrun
      exact hsel hrun
    refine machineInv_of_parts ?_ { hqueue with } (.completed rfl hq ⟨rfl, fun h => absurd h hd⟩)
    exact
      { fifo := hb.fifo
        lines := ⟨rfl, rfl⟩
        transfer := fun ht => by cases hx.symm.trans ht
        quiet := fun h => absurd h hd
        sequence := hb.sequence
        owed := hb.owed }

theorem machineInv_cycle {s : State} (h : MachineInv s) : MachineInv (cycle s) := by
  have hbus : BusSound (tick s) := { h.busSound with }
  have hqueue : QueueSound (tick s) := { h.queueSound with }
  have pass : due (tick s) = false → CommandSound (tick s) → MachineInv (cycle s) := fun hdue hc => by
    simpa [cycle, hdue] using machineInv_of_parts hbus hqueue hc
  cases h.commandSound with
  | idle hc hq hr => exact pass (due_of_none hr.1) (.idle hc hq hr)
  | deferred hc hq hr hv hl => exact pass (due_of_none hr.1) (.deferred hc hq hr hv hl)
  | completed hc hq hr => exact pass (due_of_none hr.1) (.completed hc hq hr)
  | transferring hc hq hp hx hop => exact pass (due_of_none hp) (.transferring hc hq hp hx hop)
  | @timed v rest p hc hq hp hd hrun hx ho =>
    cases hdue : due (tick s) with
    | false =>
      have hahead : ¬ p.deadline ≤ s.now + 1 := of_decide_eq_false ((due_of_some (s := tick s) hp).symm.trans hdue)
      exact pass hdue (.timed hc hq hp (Nat.lt_of_not_ge hahead) hrun hx ho)
    | true =>
      have hcycle : cycle s = fire (tick s) := by simp [cycle, hdue]
      rw [hcycle]
      rcases fire_cases (tick s) with ⟨hnone, -⟩ | ⟨_, -, h'⟩ | ⟨_, -, h'⟩
      · cases hnone.symm.trans hp
      · exact h' ▸ machineInv_onSelectTimeout hbus hqueue hq
      · exact h' ▸ machineInv_onCommandComplete hbus hqueue hq hrun hx

theorem MachineInv.deadline_ahead {s : State} (h : MachineInv s) {p : Pending} (hp : s.pending = some p) :
    s.now < p.deadline := by
  obtain ⟨⟨-, -, -, -, -, -, hahead, -⟩, -⟩ := h
  exact hahead p hp

/-! ## One operation, one step, one run -/

theorem Effect.machineInv {i : Instr} {s t : State} (he : Effect s i t) (h : MachineInv s) : MachineInv t := by
  cases he with
  | command _ => exact machineInv_submit h _
  | store hst =>
    rw [plainStore_eq hst]
    exact h
  | view _ _ _ => exact h
  | pop _ => exact machineInv_fifoDrop h
  | readDevice hx => exact machineInv_dataRead h hx
  | acknowledge => exact machineInv_readIntStatus h
  | push v _ => exact machineInv_pushByte h v
  | writeDevice v hx => exact machineInv_dataWrite h hx v
  | hardReset => exact machineInv_doDevReset s
  | advance n => exact advance_keeps (fun _ hs => machineInv_cycle hs) n s h
  | notDue _ => exact h
  | timeout hp hd => exact absurd hd (h.deadline_ahead hp).not_ge
  | complete hp hd => exact absurd hd (h.deadline_ahead hp).not_ge

theorem step_machineInv {s t : State} (h : MachineInv s) (hstep : step s = .next t) : MachineInv t := by
  cases hin : s.inbox with
  | nil =>
    simp only [step, hin, Outcome.next.injEq] at hstep
    exact hstep ▸ h
  | cons p rest =>
    simp only [step, hin] at hstep
    split at hstep
    next i _ => exact (effect_of_exec hstep).machineInv (s := { s with inbox := rest }) h
    next => cases hstep

/-- A property that every step keeps holds at the end of every run. -/
theorem run_keeps (M : Host.Core) {P : M.State → Prop} (hP : ∀ s t, P s → M.step s = .next t → P t) (n : Nat) :
    ∀ s t : M.State, P s → M.run n s = .next t → P t := by
  induction n with
  | zero =>
    intro s t hs h
    cases h
    exact hs
  | succ n ih =>
    intro s t hs h
    rw [Host.Core.run] at h
    split at h
    next u hu => exact ih u t (hP s u hs hu) h
    next => cases h
    next => cases h

end Sys2Proof.Machine

open Sys2Proof Sys2Proof.Machine

/-- Settles O48: the power-on state is cleared, and its trace is empty. -/
theorem invariantAtPowerOn : Obligations.InvariantAtPowerOn := by
  unfold Obligations.InvariantAtPowerOn
  exact fun e => ⟨machineInv_powerOn e, rfl, rfl, List.Pairwise.nil, fun _ he => by cases he⟩

/-- Settles O49: the effect of every operation keeps the three parts of the invariant. -/
theorem invariantKeptByStep : Obligations.InvariantKeptByStep := by
  unfold Obligations.InvariantKeptByStep
  exact fun _ _ => step_machineInv

/-- Settles O50: the inductive invariant holds at power-on and along every run, and the invariants of R53 are part
of it. -/
theorem stateSoundInEveryRun : Obligations.StateSoundInEveryRun := by
  unfold Obligations.StateSoundInEveryRun
  intro e n t hrun
  obtain ⟨hsound, -⟩ : MachineInv t :=
    run_keeps Sys2Proof.core (fun _ _ => step_machineInv) n _ t (machineInv_powerOn e) hrun
  exact hsound
end

section
/-! SUPPORT. The register reads as `MemRead` performs them, against the read-side view. -/

namespace Sys2Proof.Machine

/-- The view shows registers, flags, the FIFO and what the device would answer, and none of the bytes read before. -/
@[simp] theorem readView_returnByte (off o : Offset) (v : Byte) (s : State) :
    readView off (returnByte o v s) = readView off s := by
  unfold readView
  split <;> rfl

/-- spec/20_memory.md R77: only the FIFO data register and the interrupt status register have a read that does more
than return its byte. -/
theorem memRead_of_ne {off : Offset} (hfifo : off ≠ 2) (hint : off ≠ 5) (s : State) :
    memRead off.val 1 s = .next (returnByte off (readView off s) s) := by
  match off with
  | 2 => exact absurd rfl hfifo
  | 5 => exact absurd rfl hint
  | 0 | 1 | 3 | 4 | 6 | 7 | 8 | 9 => rfl

end Sys2Proof.Machine

open Sys2Proof Sys2Proof.Machine

/-- Settles O16: such a read only appends the byte of the view to the bytes read, and the view does not depend on
those. -/
theorem otherReadsIdempotent : Obligations.OtherReadsIdempotent := by
  unfold Obligations.OtherReadsIdempotent
  exact fun off s hfifo hint => ⟨memRead_of_ne hfifo hint s, readView_returnByte off off (readView off s) s⟩
end

section
/-! SUPPORT. The decoder and the encoder against each other: the forty round trips together, the operations a word or
a byte decodes to, and the words that decode to none. -/

namespace Sys2Proof

/-- The forty round trips, one per row of the opcode table. -/
theorem decode_encode : ∀ i : Instr, Laws.RoundTrip.Statement i
  | .rdTcl => Laws.RoundTrip.rdTcl
  | .rdTch => Laws.RoundTrip.rdTch
  | .rdFifo => Laws.RoundTrip.rdFifo
  | .rdCmd => Laws.RoundTrip.rdCmd
  | .rdStat => Laws.RoundTrip.rdStat
  | .rdIntstat => Laws.RoundTrip.rdIntstat
  | .rdSeq => Laws.RoundTrip.rdSeq
  | .rdFflags => Laws.RoundTrip.rdFflags
  | .rdConfig => Laws.RoundTrip.rdConfig
  | .rdCcf => Laws.RoundTrip.rdCcf
  | .wrTcl v => Laws.RoundTrip.wrTcl v
  | .wrTch v => Laws.RoundTrip.wrTch v
  | .wrFifo v => Laws.RoundTrip.wrFifo v
  | .wrCmd v => Laws.RoundTrip.wrCmd v
  | .wrBusid v => Laws.RoundTrip.wrBusid v
  | .wrTimeout v => Laws.RoundTrip.wrTimeout v
  | .wrSyncp v => Laws.RoundTrip.wrSyncp v
  | .wrSynco v => Laws.RoundTrip.wrSynco v
  | .wrConfig v => Laws.RoundTrip.wrConfig v
  | .wrCcf v => Laws.RoundTrip.wrCcf v
  | .reset x => Laws.RoundTrip.reset x
  | .flush x => Laws.RoundTrip.flush x
  | .devReset x => Laws.RoundTrip.devReset x
  | .busReset x => Laws.RoundTrip.busReset x
  | .select x => Laws.RoundTrip.select x
  | .selXfer x => Laws.RoundTrip.selXfer x
  | .selAtn x => Laws.RoundTrip.selAtn x
  | .selAtnXfer x => Laws.RoundTrip.selAtnXfer x
  | .tSendData x => Laws.RoundTrip.tSendData x
  | .tSendStat x => Laws.RoundTrip.tSendStat x
  | .tReselect x => Laws.RoundTrip.tReselect x
  | .tDisconnect x => Laws.RoundTrip.tDisconnect x
  | .xfer x => Laws.RoundTrip.xfer x
  | .release x => Laws.RoundTrip.release x
  | .illegal v => Laws.RoundTrip.illegal v
  | .adv n => Laws.RoundTrip.adv n
  | .hreset => Laws.RoundTrip.hreset
  | .parity b => Laws.RoundTrip.parity b
  | .fireSel => Laws.RoundTrip.fireSel
  | .fireCc => Laws.RoundTrip.fireCc

/-! ## What is decoded -/

theorem wellFormed_of_decodeRead {o : BitVec 4} {i : Instr} (h : decodeRead o = .ok i) : i.wellFormed = true := by
  unfold decodeRead at h
  split at h <;> cases h <;> rfl

/-- A write row is well formed and is encoded with the offset and the byte it was decoded from. -/
theorem decodeWrite_sound {o : BitVec 4} {v : Byte} {i : Instr} (h : decodeWrite o v = .ok i) :
    i.wellFormed = true ∧ encode i = .stim (stimWord 0x1#4 o v) 0 := by
  have ho : o = BitVec.ofNat 4 o.toNat := by simp
  unfold decodeWrite at h
  split at h
  case h_11 => cases h
  all_goals
    next hoff =>
      rw [hoff] at ho
      subst ho
      cases h
      exact ⟨rfl, rfl⟩

theorem wellFormed_of_decodeParity {w : BitVec 16} {i : Instr} (h : decodeParity w = .ok i) : i.wellFormed = true := by
  unfold decodeParity at h
  split at h
  · cases h; rfl
  · split at h <;> cases h
    rfl

/-- R116: the decoder answers no firing, and `ILLEGAL` only for a byte in no row of the opcode map. -/
theorem wellFormed_of_decode {p : Stimulus} {i : Instr} (h : decode p = .ok i) : i.wellFormed = true := by
  cases p with
  | cmd v =>
    cases h
    exact (decodeCommand_sound v).1
  | stim w n =>
    simp only [decode, decodeStim] at h
    split at h
    · exact wellFormed_of_decodeRead h
    · exact (decodeWrite_sound h).1
    · cases h; rfl
    · cases h; rfl
    · exact wellFormed_of_decodeParity h
    · cases h

theorem decode_of_writeKind {w : BitVec 16} (hk : kindField w = 0x1#4) (n : Nat) :
    decode (.stim w n) = decodeWrite (offField w) (dataField w) := by
  simp [decode, decodeStim, hk]

/-- The command row of a byte submits that byte, bit 7 included (R102, R104). -/
theorem submitted_decodeCommand (v : Byte) : Machine.submitted (decodeCommand v) = some v := by
  revert v
  decide

/-! ## What is refused -/

theorem decodeRead_of_lt {o : BitVec 4} (h : 9#4 < o) : decodeRead o = .error (.offsetOutOfRange o) := by
  revert o
  decide

theorem decodeWrite_of_lt {o : BitVec 4} (h : 9#4 < o) (v : Byte) :
    decodeWrite o v = .error (.offsetOutOfRange o) := by
  have h : 9 < o.toNat := h
  unfold decodeWrite
  split
  case h_11 => rfl
  all_goals omega

theorem decodeParity_of_notMem {w : BitVec 16} (h : w ∉ [0xA000#16, 0xA001#16]) :
    decodeParity w = .error (.parityOperand w) := by
  simp only [List.mem_cons, List.not_mem_nil, or_false, not_or] at h
  simp [decodeParity, h]

theorem decode_of_otherKind {w : BitVec 16} (h : kindField w ∉ [0x0#4, 0x1#4, 0x8#4, 0x9#4, 0xA#4]) (n : Nat) :
    decode (.stim w n) = .error (.notAStimulus (kindField w)) := by
  have hk : ∀ k : BitVec 4, k ∉ [0x0#4, 0x1#4, 0x8#4, 0x9#4, 0xA#4] →
      k.toNat ≠ 0x0 ∧ k.toNat ≠ 0x1 ∧ k.toNat ≠ 0x8 ∧ k.toNat ≠ 0x9 ∧ k.toNat ≠ 0xA := by decide
  obtain ⟨h0, h1, h8, h9, hA⟩ := hk _ h
  change decodeStim w n = _
  unfold decodeStim
  split
  next hk => exact absurd hk h0
  next hk => exact absurd hk h1
  next hk => exact absurd hk h8
  next hk => exact absurd hk h9
  next hk => exact absurd hk hA
  next => rfl

theorem decode_of_offset_lt {w : BitVec 16} (hk : kindField w ∈ [0x0#4, 0x1#4]) (ho : 9#4 < offField w) (n : Nat) :
    decode (.stim w n) = .error (.offsetOutOfRange (offField w)) := by
  simp only [List.mem_cons, List.not_mem_nil, or_false] at hk
  rcases hk with hk | hk
  · simp [decode, decodeStim, hk, decodeRead_of_lt ho]
  · rw [decode_of_writeKind hk, decodeWrite_of_lt ho]

theorem decode_of_parityOperand {w : BitVec 16} (hk : kindField w = 0xA#4) (hw : w ∉ [0xA000#16, 0xA001#16]) (n : Nat) :
    decode (.stim w n) = .error (.parityOperand w) := by
  simp [decode, decodeStim, hk, decodeParity_of_notMem hw]

end Sys2Proof

namespace Sys2Proof.Machine

/-! ## One step, by what the next stimulus decodes to -/

theorem step_of_empty {s : State} (h : s.inbox = []) : step s = .next s := by simp [step, h]

theorem step_of_decode_ok {s : State} {p : Stimulus} {rest : List Stimulus} {i : Instr} (hin : s.inbox = p :: rest)
    (hp : decode p = .ok i) : step s = exec i { s with inbox := rest } := by
  simp [step, hin, hp]

theorem step_of_decode_error {s : State} {p : Stimulus} {rest : List Stimulus} {e : DecodeError}
    (hin : s.inbox = p :: rest) (hp : decode p = .error e) : step s = .refused (.notAnOperation e) := by
  simp [step, hin, hp]

/-! ## The fields of a command byte -/

theorem opcode_toNat (v : Byte) : (opcode v).toNat = v.toNat % 128 := by
  rw [opcode, BitVec.toNat_and]
  exact Nat.and_two_pow_sub_one_eq_mod v.toNat 7

theorem isImmediate_iff (v : Byte) : isImmediate v = true ↔ v ∈ [0x00#8, 0x02#8, 0x03#8] := by
  simp [isImmediate, or_assoc]

/-- The commands of R106 valid in a mode: group 0, and the group of the mode. -/
def validIn : Mode → List Byte
  | .disconnected => [0x00#8, 0x01#8, 0x02#8, 0x03#8, 0x10#8, 0x11#8, 0x12#8, 0x13#8]
  | .target => [0x00#8, 0x01#8, 0x02#8, 0x03#8, 0x20#8, 0x21#8, 0x22#8, 0x23#8]
  | .initiator => [0x00#8, 0x01#8, 0x02#8, 0x03#8, 0x30#8, 0x31#8]

theorem valid_iff (v : Byte) (m : Mode) : valid (opcode v) m = true ↔ opcode v ∈ validIn m := by
  revert v
  cases m <;> decide

theorem validIn_subset (m : Mode) : validIn m ⊆ legalOpcodes := by cases m <;> decide

theorem hasOpcode_iff (v : Byte) : hasOpcode v = true ↔ opcode v ∈ legalOpcodes := List.contains_iff_mem

/-- R106: a byte in no row of the opcode map is valid in no mode. -/
theorem valid_of_not_hasOpcode {v : Byte} (h : hasOpcode v = false) (m : Mode) : valid (opcode v) m = false := by
  rw [Bool.eq_false_iff] at h ⊢
  exact fun hv => h ((hasOpcode_iff v).2 (validIn_subset m ((valid_iff v m).1 hv)))

end Sys2Proof.Machine

open Sys2Proof Sys2Proof.Machine

/-- Settles O1: the forty round trips together. -/
theorem decodeOfEncode : Obligations.DecodeOfEncode := by
  unfold Obligations.DecodeOfEncode
  exact decode_encode

/-- Settles O2: the decoder row by row; a write word is put together again from the fields it was decoded from. -/
theorem encodeOfDecode : Obligations.EncodeOfDecode := by
  unfold Obligations.EncodeOfDecode
  refine ⟨fun _ _ => wellFormed_of_decode, fun v => (decodeCommand_sound v).2, fun w n i hk h => ?_⟩
  rw [decode_of_writeKind hk] at h
  calc encode i = .stim (stimWord 0x1#4 (offField w) (dataField w)) 0 := (decodeWrite_sound h).2
    _ = .stim w 0 := by rw [← hk, stimWord_fields]

/-- Settles O4: by the kind field, then by the offset or the operand. -/
theorem otherWordsRefused : Obligations.OtherWordsRefused := by
  unfold Obligations.OtherWordsRefused
  exact ⟨fun _ n h => decode_of_otherKind h n, fun _ n hk ho => decode_of_offset_lt hk ho n,
    fun _ n hk hw => decode_of_parityOperand hk hw n, fun _ _ _ _ => step_of_decode_error⟩

/-- Settles O6: both submit the byte as written. -/
theorem writtenByteIsCommand : Obligations.WrittenByteIsCommand := by
  unfold Obligations.WrittenByteIsCommand
  exact fun v s => (exec_of_submitted (submitted_decodeCommand v) s).symm

/-- Settles O3, by evaluating the decoder on the ten words. -/
theorem tableWordsDecode : Obligations.TableWordsDecode := by
  unfold Obligations.TableWordsDecode
  decide

/-- Settles O5: the two arms of `step` that answer a state. -/
theorem stepPerformsDecoded : Obligations.StepPerformsDecoded := by
  unfold Obligations.StepPerformsDecoded
  exact ⟨fun _ _ _ _ => step_of_decode_ok, fun _ => step_of_empty⟩

/-- Settles O7: the counts by evaluation over the 128 values; what is valid in a mode is in the opcode map. -/
theorem legalCommandsCounted : Obligations.LegalCommandsCounted := by
  unfold Obligations.LegalCommandsCounted
  exact ⟨by decide, by decide, by decide, fun _ m h => valid_of_not_hasOpcode h m⟩

/-- Settles O60: the tables of the opcode map and of validity, and bit 7 as the remainder modulo 128. -/
theorem commandByteTables : Obligations.CommandByteTables := by
  unfold Obligations.CommandByteTables
  exact fun v => ⟨opcode_toNat v, isImmediate_iff v, hasOpcode_iff v, valid_iff v .disconnected, valid_iff v .target,
    valid_iff v .initiator⟩
end

section
/-! SUPPORT. What no rule reads: a change of the state that no part of the decoder sees passes through dispatch, and so
bit 7 of the queued bytes and the bits that are stored and ignored make no difference. -/

namespace Sys2Proof.Machine

open Host (Outcome)

/-! ## A change the decoder does not see -/

/-- The change `f` of the state is seen by no part of the decoder: not by what `dispatch()` and `pop_and_chain()` look
at, and each part makes the same change of the state before `f` and after it. -/
structure HiddenFromDecoder (f : State → State) : Prop where
  opcode : ∀ s, opcode (slot0 (f s)) = opcode (slot0 s)
  mode : ∀ s, (f s).mode = s.mode
  cstate : ∀ s, (f s).cstate = s.cstate
  fifo : ∀ s, (f s).fifo = s.fifo
  length : ∀ s, (f s).cmdq.length = s.cmdq.length
  pop : Function.Commute f fun s => { s with cmdq := s.cmdq.tail }
  idle : Function.Commute f fun s => { s with cstate := .idle }
  flush : Function.Commute f fun s => { fifoFlush s with cstate := .completed }
  reject : Function.Commute f rejectIllegal
  defer : Function.Commute f defer
  select : ∀ c, Function.Commute f (selectStart c)
  target : ∀ k, Function.Commute f (targetStart k)
  connection : Function.Commute f endConnection
  xfer : Function.Commute f doXfer

section HiddenFromDecoder
variable {f : State → State} (hf : HiddenFromDecoder f)
include hf

theorem HiddenFromDecoder.cmdq_eq_nil_iff (s : State) : (f s).cmdq = [] ↔ s.cmdq = [] := by
  rw [← List.length_eq_zero_iff, hf.length, List.length_eq_zero_iff]

theorem HiddenFromDecoder.popAndChainWith {disp : State → State} (hd : Function.Commute f disp) :
    Function.Commute f (popAndChainWith disp) := by
  intro s
  have htail : (f s).cmdq.tail = [] ↔ s.cmdq.tail = [] := by
    rw [← List.length_eq_zero_iff, ← List.length_eq_zero_iff, List.length_tail, List.length_tail, hf.length]
  have hended : ((f s).cmdq ≠ [] ∧ (f s).cstate = .completed) ↔ (s.cmdq ≠ [] ∧ s.cstate = .completed) := by
    rw [ne_eq, hf.cmdq_eq_nil_iff, hf.cstate]
  have hnext : f (disp { s with cmdq := s.cmdq.tail }) = disp { f s with cmdq := (f s).cmdq.tail } :=
    (hd _).trans (congrArg disp (hf.pop s))
  have hlast : f { s with cmdq := s.cmdq.tail, cstate := .idle } =
      { f s with cmdq := (f s).cmdq.tail, cstate := .idle } :=
    (hf.idle { s with cmdq := s.cmdq.tail }).trans (congrArg (fun t => { t with cstate := .idle }) (hf.pop s))
  simp only [Machine.popAndChainWith, apply_ite f, hended, ne_eq, htail, hnext, hlast]

theorem HiddenFromDecoder.executeCmd {chain : State → State} (hc : Function.Commute f chain) (c : Byte) :
    Function.Commute f (executeCmd chain c) := by
  intro s
  have hflush : f (doFlush chain s) = doFlush chain (f s) := (hc _).trans (congrArg chain (hf.flush s))
  simp only [Machine.executeCmd, apply_ite f, hflush]
  simp only [doSelect, doSelXfer, doSelAtn, doSelAtnXfer, doTSendData, doTSendStat, doTReselect, doTDisconnect,
    doRelease, hf.select _ s, hf.target _ s, hf.connection s, hf.xfer s]

theorem HiddenFromDecoder.dispatchN (k : Nat) : Function.Commute f (dispatchN k) := by
  induction k with
  | zero => exact fun _ => rfl
  | succ k ih =>
    intro s
    have hexec := hf.executeCmd (hf.popAndChainWith ih) (Machine.opcode (slot0 s)) s
    simp only [Machine.dispatchN, dispatchWith, apply_ite f, hf.opcode, hf.mode, hf.fifo, hf.defer s, hf.reject s,
      hexec]

/-- A change that no part of the decoder sees passes through `dispatch()`. -/
theorem HiddenFromDecoder.dispatch : Function.Commute f dispatch := by
  intro s
  rw [Machine.dispatch, Machine.dispatch, hf.length]
  exact hf.dispatchN _ s

theorem HiddenFromDecoder.popAndChain : Function.Commute f popAndChain := hf.popAndChainWith hf.dispatch

end HiddenFromDecoder

/-! ## Bit 7 of a command byte -/

theorem opcode_flipBitSeven (v : Byte) : opcode (v ^^^ 0x80#8) = opcode v := by
  revert v
  decide

theorem opcode_slot0_forgetBitSeven (s : State) : opcode (slot0 (forgetBitSeven s)) = opcode (slot0 s) := by
  cases hq : s.cmdq with
  | nil => simp [forgetBitSeven, slot0, hq]
  | cons v rest => simp [forgetBitSeven, slot0, hq, opcode_opcode]

theorem forgetBitSeven_hidden : HiddenFromDecoder forgetBitSeven where
  opcode := opcode_slot0_forgetBitSeven
  mode _ := rfl
  cstate _ := rfl
  fifo _ := rfl
  length _ := List.length_map _
  pop s := congrArg (fun q => { s with cmdq := q }) List.map_tail
  idle _ := rfl
  flush _ := rfl
  reject _ := rfl
  defer _ := rfl
  select c s := by
    rw [selectStart_eq, selectStart_eq, apply_ite forgetBitSeven]
    rfl
  target _ _ := rfl
  connection _ := rfl
  xfer s := by
    rw [doXfer, apply_ite forgetBitSeven]
    rfl

/-- A command byte and its opcode are submitted alike, but for bit 7 of the queued byte (R102). -/
theorem forgetBitSeven_submit (v : Byte) (s : State) :
    forgetBitSeven (submit v s) = forgetBitSeven (submit (opcode v) s) := by
  have hqueued : forgetBitSeven { s with cmdq := [v] } = forgetBitSeven { s with cmdq := [opcode v] } := by
    simp [forgetBitSeven, opcode_opcode]
  have hdispatch : forgetBitSeven (dispatch { s with cmdq := [v] }) =
      forgetBitSeven (dispatch { s with cmdq := [opcode v] }) := by
    rw [forgetBitSeven_hidden.dispatch, hqueued, forgetBitSeven_hidden.dispatch]
  have happend : forgetBitSeven { s with cmdq := s.cmdq ++ [v] } =
      forgetBitSeven { s with cmdq := s.cmdq ++ [opcode v] } := by
    simp [forgetBitSeven, opcode_opcode]
  simp only [submit, enqueue, opcode_opcode, apply_ite forgetBitSeven, hdispatch, happend]

/-! ## The bits that are stored and ignored -/

theorem targetOf_and_seven (b : Byte) : targetOf (b &&& 0x07#8) = targetOf b := by
  revert b
  decide

theorem forgetIgnored_forgetIgnored (s : State) : forgetIgnored (forgetIgnored s) = forgetIgnored s := by
  simp [forgetIgnored, BitVec.and_assoc]

/-- A select reads the low three bits of `bus_id` alone (R23). -/
theorem forgetIgnored_selectStart (c : Byte) : Function.Commute forgetIgnored (selectStart c) := by
  intro s
  have htarget : targetOf (forgetIgnored s).busId = targetOf s.busId := targetOf_and_seven s.busId
  rw [selectStart_eq, selectStart_eq, apply_ite forgetIgnored, htarget]
  rfl

theorem forgetIgnored_hidden : HiddenFromDecoder forgetIgnored where
  opcode _ := rfl
  mode _ := rfl
  cstate _ := rfl
  fifo _ := rfl
  length _ := rfl
  pop _ := rfl
  idle _ := rfl
  flush _ := rfl
  reject _ := rfl
  defer _ := rfl
  select := forgetIgnored_selectStart
  target _ _ := rfl
  connection _ := rfl
  xfer s := by
    rw [doXfer, apply_ite forgetIgnored]
    rfl

/-- A full reset clears the ignored bits with the rest (R56). -/
theorem forgetIgnored_doDevReset : Function.Commute forgetIgnored doDevReset := by
  intro s
  have hzero : 0x00#8 &&& 0x07#8 = 0x00#8 := by decide
  exact congrArg (fun b => { doDevReset s with busId := b }) hzero

theorem forgetIgnored_submit (v : Byte) : Function.Commute forgetIgnored (submit v) := by
  intro s
  have hdispatch : forgetIgnored (dispatch { s with cmdq := [v] }) = dispatch { forgetIgnored s with cmdq := [v] } :=
    forgetIgnored_hidden.dispatch _
  simp only [submit, enqueue, apply_ite forgetIgnored, forgetIgnored_doDevReset s, hdispatch]
  rfl

theorem forgetIgnored_pushByte (v : Byte) : Function.Commute forgetIgnored (pushByte v) := by
  intro s
  have hdispatch : forgetIgnored (dispatch (fifoPush v s)) = dispatch (fifoPush v (forgetIgnored s)) :=
    forgetIgnored_hidden.dispatch _
  rw [pushByte, apply_ite forgetIgnored, hdispatch]
  rfl

theorem forgetIgnored_readIntStatus : Function.Commute forgetIgnored readIntStatus := by
  intro s
  have hchain : forgetIgnored (popAndChain (acknowledge s)) = popAndChain (acknowledge (forgetIgnored s)) :=
    forgetIgnored_hidden.popAndChain _
  rw [readIntStatus_eq, readIntStatus_eq, apply_ite forgetIgnored, hchain]
  rfl

theorem forgetIgnored_endIfDone : Function.Commute forgetIgnored endIfDone := by
  intro s
  have hdone : forgetIgnored (dataDone s) = dataDone (forgetIgnored s) := by
    unfold dataDone
    cases hw : xferWaiting s <;> rw [show xferWaiting (forgetIgnored s) = _ from hw] <;> rfl
  rw [endIfDone, apply_ite forgetIgnored, hdone]
  rfl

theorem forgetIgnored_dataRead : Function.Commute forgetIgnored dataRead :=
  fun s => forgetIgnored_endIfDone (callReadData s)

theorem forgetIgnored_dataWrite (v : Byte) : Function.Commute forgetIgnored (dataWrite v) :=
  fun s => forgetIgnored_endIfDone (callWriteData v s)

theorem forgetIgnored_returnByte (off : Offset) (v : Byte) : Function.Commute forgetIgnored (returnByte off v) :=
  fun _ => rfl

theorem forgetIgnored_fire : Function.Commute forgetIgnored fire := by
  intro s
  have hcomplete (t : State) : forgetIgnored (onCommandComplete t) = onCommandComplete (forgetIgnored t) := by
    rw [onCommandComplete_eq, onCommandComplete_eq, apply_ite forgetIgnored]
    rfl
  unfold fire
  match hp : s.pending with
  | none => rfl
  | some ⟨.sel, _⟩ => rfl
  | some ⟨.cc, _⟩ => exact hcomplete (cancel s)

theorem forgetIgnored_advance (n : Nat) : Function.Commute forgetIgnored (advance n) := by
  induction n with
  | zero => exact fun _ => rfl
  | succ n ih =>
    intro s
    have hcycle : forgetIgnored (cycle s) = cycle (forgetIgnored s) := by
      rw [cycle, apply_ite forgetIgnored, forgetIgnored_fire]
      rfl
    rw [advance, ih, hcycle]
    rfl

/-- The writes of the registers that hold ignored bits (R112). -/
def writesIgnored : Instr → Bool
  | .wrBusid _ | .wrSyncp _ | .wrSynco _ | .wrConfig _ => true
  | _ => false

/-- Every operation but the read of `config` and the writes of the ignored bits passes them on unread. -/
theorem forgetIgnored_exec {i : Instr} (s : State) (hread : i ≠ .rdConfig) (hwrite : writesIgnored i = false) :
    onNext forgetIgnored (exec i s) = exec i (forgetIgnored s) := by
  cases hi : submitted i with
  | some v =>
    rw [exec_of_submitted hi, exec_of_submitted hi]
    exact congrArg Outcome.next (forgetIgnored_submit v s)
  | none =>
    cases i <;> simp only [submitted, writesIgnored, reduceCtorEq] at hi hwrite <;> refine congrArg Outcome.next ?_
    case rdConfig => exact absurd rfl hread
    case rdFifo =>
      simp only [apply_ite forgetIgnored, forgetIgnored_returnByte _ _ _, forgetIgnored_dataRead s]
      rfl
    case rdIntstat => exact congrArg (returnByte 0x5 (intStatusByte s)) (forgetIgnored_readIntStatus s)
    case wrFifo v =>
      rw [apply_ite forgetIgnored, forgetIgnored_dataWrite, forgetIgnored_pushByte]
      rfl
    case adv n => exact forgetIgnored_advance n s
    case hreset => exact forgetIgnored_doDevReset s
    case fireSel | fireCc =>
      rw [apply_ite forgetIgnored, forgetIgnored_fire]
      rfl
    all_goals rfl

/-- A write of a register that holds ignored bits makes the same state of them whatever they were. -/
theorem forgetIgnored_exec_of_writesIgnored {i : Instr} (s : State) (hwrite : writesIgnored i = true) :
    onNext forgetIgnored (exec i s) = onNext forgetIgnored (exec i (forgetIgnored s)) := by
  cases i <;> simp only [writesIgnored, reduceCtorEq] at hwrite <;> refine congrArg Outcome.next ?_
  case wrBusid v => rfl
  case wrSyncp | wrSynco | wrConfig => exact (forgetIgnored_forgetIgnored s).symm

end Sys2Proof.Machine

open Sys2Proof Sys2Proof.Machine

/-- Settles O8: a byte and its opcode are submitted alike, and flipping bit 7 leaves the opcode. -/
theorem bitSevenIgnored : Obligations.BitSevenIgnored := by
  unfold Obligations.BitSevenIgnored
  intro v s
  refine congrArg Host.Outcome.next ?_
  calc forgetBitSeven (submit v s) = forgetBitSeven (submit (opcode v) s) := forgetBitSeven_submit v s
    _ = forgetBitSeven (submit (opcode (v ^^^ 0x80#8)) s) := by rw [opcode_flipBitSeven]
    _ = forgetBitSeven (submit (v ^^^ 0x80#8) s) := (forgetBitSeven_submit _ s).symm

/-- Settles O57: a write of such bits overwrites them whatever they were, and every other operation passes them on
unread. -/
theorem ignoredBitsUnobservable : Obligations.IgnoredBitsUnobservable := by
  unfold Obligations.IgnoredBitsUnobservable
  intro i s hread
  cases hwrite : writesIgnored i with
  | true => exact forgetIgnored_exec_of_writesIgnored s hwrite
  | false =>
    rw [forgetIgnored_exec s hread hwrite, forgetIgnored_exec (forgetIgnored s) hread hwrite,
      forgetIgnored_forgetIgnored]
end

section
/-! SUPPORT. The register file: where the two primitives lead by their offset, what a read returns, the layout of the
status register, and the interrupt-status read, which acknowledges, pops and chains. -/

namespace Sys2Proof.Machine

open Host (Outcome)

/-! ## The operation of an offset -/

/-- R130: at each of the ten offsets `MemRead` performs the operation that the decoder reads from the offset. -/
theorem memRead_eq_exec (off : Offset) :
    ∃ i, decodeRead (BitVec.ofNat 4 off) = .ok i ∧ ∀ s, memRead off 1 s = exec i s := by
  match off with
  | 0 | 1 | 2 | 3 | 4 | 5 | 6 | 7 | 8 | 9 => exact ⟨_, rfl, fun _ => rfl⟩

/-- R131: at each of the ten offsets `MemWrite` performs the operation that the decoder reads from the offset. -/
theorem memWrite_eq_exec (off : Offset) (v : Byte) :
    ∃ i, decodeWrite (BitVec.ofNat 4 off) v = .ok i ∧ ∀ s, memWrite off 1 v s = exec i s := by
  match off with
  | 0 | 1 | 2 | 3 | 4 | 5 | 6 | 7 | 8 | 9 => exact ⟨_, rfl, fun _ => rfl⟩

theorem memRead_of_ten_le {off : Nat} (h : 10 ≤ off) (s : State) :
    memRead off 1 s = .refused (.offsetOutOfRange off) := by
  obtain ⟨k, rfl⟩ := Nat.exists_eq_add_of_le' h
  rfl

theorem memWrite_of_ten_le {off : Nat} (h : 10 ≤ off) (v : Byte) (s : State) :
    memWrite off 1 v s = .refused (.offsetOutOfRange off) := by
  obtain ⟨k, rfl⟩ := Nat.exists_eq_add_of_le' h
  rfl

theorem memRead_of_width_ne {n : Nat} (h : n ≠ 1) (off : Nat) (s : State) :
    memRead off n s = .refused (.notByteWide n) := if_pos h

theorem memWrite_of_width_ne {n : Nat} (h : n ≠ 1) (off : Nat) (v : Byte) (s : State) :
    memWrite off n v s = .refused (.notByteWide n) := if_pos h

/-! ## What a read returns -/

@[simp] theorem endIfDone_reads (s : State) : (endIfDone s).reads = s.reads := by
  rcases endIfDone_cases s with ⟨-, h⟩ | ⟨-, -, h⟩ | ⟨-, -, h⟩ <;> rw [h] <;> rfl

@[simp] theorem dataRead_reads (s : State) : (dataRead s).reads = s.reads := endIfDone_reads (callReadData s)

@[simp] theorem readIntStatus_reads (s : State) : (readIntStatus s).reads = s.reads := by
  rw [readIntStatus_eq]
  split
  · rfl
  · exact (popAndChain_frame (acknowledge s)).reads

/-- R179: the FIFO data register returns the byte of the device while a transfer is active, else the oldest of the
FIFO. -/
theorem execRdFifo_reads (s : State) :
    ∃ t, execRdFifo s = .next t ∧ t.reads = s.reads ++ [⟨2, readView 2 s⟩] := by
  unfold execRdFifo readView
  cases s.xferActive
  · exact ⟨_, rfl, rfl⟩
  · exact ⟨_, rfl, congrArg (· ++ _) (dataRead_reads s)⟩

/-- R139: the interrupt-status read returns the bits it is about to clear. -/
theorem execRdIntstat_reads (s : State) :
    ∃ t, execRdIntstat s = .next t ∧ t.reads = s.reads ++ [⟨5, readView 5 s⟩] :=
  ⟨_, rfl, congrArg (· ++ _) (readIntStatus_reads s)⟩

/-- R144: the flags register holds the exact count, since 16 fits in a byte. -/
theorem toNat_fifoFlagsByte {s : State} (h : FifoFits s) : (fifoFlagsByte s).toNat = s.fifo.length := by
  have hlen : s.fifo.length ≤ 16 := h
  rw [fifoFlagsByte, BitVec.toNat_ofNat]
  omega

/-! ## The layout of the status register (R138) -/

/-- The three flags stand above the mode and the phase, each in a bit of its own. -/
theorem statusByte_flags (s : State) :
    (statusByte s).getLsbD 7 = s.irq ∧ (statusByte s).getLsbD 6 = s.ge ∧ (statusByte s).getLsbD 5 = s.pe := by
  simp only [statusByte, BitVec.getLsbD_append]
  simp

theorem statusByte_mode (s : State) : (statusByte s).extractLsb' 3 2 = modeCode s.mode := by
  rw [statusByte, BitVec.extractLsb'_append_eq_of_le (by decide)]
  exact BitVec.extractLsb'_append_eq_right

theorem statusByte_phase (s : State) : (statusByte s).extractLsb' 0 3 = phaseCode s.phase :=
  BitVec.extractLsb'_append_eq_right

/-! ## The interrupt-status read (R139, R324) -/

theorem acknowledge_of_int_eq_zero {s : State} (hl : LinesAgree s) (h : s.int = 0#5) : acknowledge s = s := by
  have hclear : ({ s with int := 0#5 } : State) = s := by rw [← h]
  rw [acknowledge, hclear, updateLines_eq_self hl]

/-- What the acknowledging read leaves before the pop: every cause cleared and IRQ lowered, with its edge. -/
def acknowledged (s : State) : State :=
  { s with int := 0#5, irq := false, edges := s.edges ++ [⟨.irq, false, s.now⟩] }

theorem acknowledge_of_int_ne_zero {s : State} (hl : LinesAgree s) (h : s.int ≠ 0#5) :
    acknowledge s = acknowledged s := by
  obtain ⟨hirq, hdrq⟩ := hl
  have hirq : s.irq = true := hirq.trans (bne_iff_ne.2 h)
  rw [acknowledge_eq hdrq, irqFall, hirq]
  rfl

/-- With no bit set the read only returns a zero byte. -/
theorem exec_rdIntstat_of_int_eq_zero {s : State} (hl : LinesAgree s) (h : s.int = 0#5) :
    exec .rdIntstat s = .next (returnByte 0x5 0x00#8 s) := by
  have hread : readIntStatus s = s := by
    rw [readIntStatus_eq, if_pos h, acknowledge_of_int_eq_zero hl h]
  rw [exec, execRdIntstat, hread, (intStatusByte_eq_zero_iff s).2 h]

/-- With a bit set the read acknowledges, then pops and chains. -/
theorem exec_rdIntstat_of_int_ne_zero {s : State} (hl : LinesAgree s) (h : s.int ≠ 0#5) :
    exec .rdIntstat s = .next (returnByte 0x5 (intStatusByte s) (popAndChain (acknowledged s))) := by
  rw [exec, execRdIntstat, readIntStatus_eq, if_neg h, acknowledge_of_int_ne_zero hl h]

/-! ## Pop and chain, by what is in the queue (R194, R195) -/

theorem popAndChain_of_not_ended {s : State} (h : s.cmdq = [] ∨ s.cstate ≠ .completed) : popAndChain s = s :=
  if_neg fun ⟨hq, hc⟩ => h.elim hq (· hc)

theorem popAndChain_of_alone {s : State} {v : Byte} (hq : s.cmdq = [v]) (hc : s.cstate = .completed) :
    popAndChain s = { s with cmdq := [], cstate := .idle } := by
  simp [popAndChain, popAndChainWith, hq, hc]

theorem popAndChain_of_chained {s : State} {v w : Byte} {rest : List Byte} (hq : s.cmdq = v :: w :: rest)
    (hc : s.cstate = .completed) : popAndChain s = dispatch { s with cmdq := w :: rest } := by
  simp [popAndChain, popAndChainWith, hq, hc]

/-! ## An invalid command -/

theorem dispatch_of_invalid {s : State} (hv : valid (opcode (slot0 s)) s.mode = false) :
    dispatch s = rejectIllegal s := by
  rw [dispatch_eq, dispatchWith, hv]
  rfl

/-- R190: the Illegal Command written out, for a DRQ line that agrees with the transfer. -/
theorem rejectIllegal_eq {s : State} (hd : s.drq = s.xferActive) :
    rejectIllegal s = { s with
      int := s.int ||| causeBit .illegalCommand, irq := true, edges := s.edges ++ irqRise s
      cstate := .completed } := by
  rw [rejectIllegal, raise, updateLines_of_cause (s := setCause .illegalCommand s) (setCause_int _ s)]
  simp [hd, setCause, irqRise]

end Sys2Proof.Machine

open Sys2Proof Sys2Proof.Machine

/-- Settles O11: the byte is the five fields in a row, so each bit position falls into one of them. -/
theorem statusReadLayout : Obligations.StatusReadLayout := by
  unfold Obligations.StatusReadLayout
  intro s
  obtain ⟨hirq, hge, hpe⟩ := statusByte_flags s
  exact ⟨decode_read _ _ _, rfl, hirq, hge, hpe, statusByte_mode s, statusByte_phase s⟩

/-- Settles O14: below 10 the offset is one of the ten that decode, from 10 on no arm matches it. -/
theorem offsetSelectsOperation : Obligations.OffsetSelectsOperation := by
  unfold Obligations.OffsetSelectsOperation
  refine ⟨fun off s => ?_, fun off v s => ?_, fun off n v s hn =>
    ⟨memRead_of_width_ne hn off s, memWrite_of_width_ne hn off v s⟩⟩
  · split
    next hlt =>
      obtain ⟨i, hi, hexec⟩ := memRead_eq_exec ⟨off, hlt⟩
      rw [hi]
      exact hexec s
    next hge => exact memRead_of_ten_le (Nat.le_of_not_lt hge) s
  · split
    next hlt =>
      obtain ⟨i, hi, hexec⟩ := memWrite_eq_exec ⟨off, hlt⟩ v
      rw [hi]
      exact hexec s
    next hge => exact memWrite_of_ten_le (Nat.le_of_not_lt hge) v s

/-- Settles O15: offsets 0x2 and 0x5 by what their side effects leave of the bytes read, the other eight because they
have none. -/
theorem readReturnsView : Obligations.ReadReturnsView := by
  unfold Obligations.ReadReturnsView
  intro off s
  by_cases hfifo : off = 2
  · subst hfifo
    exact execRdFifo_reads s
  by_cases hint : off = 5
  · subst hint
    exact execRdIntstat_reads s
  exact ⟨_, memRead_of_ne hfifo hint s, returnByte_reads off (readView off s) s⟩

/-- Settles O37: the acknowledged state, popped by what its queue holds. -/
theorem interruptStatusRead : Obligations.InterruptStatusRead := by
  unfold Obligations.InterruptStatusRead
  refine fun s hl => ⟨exec_rdIntstat_of_int_eq_zero hl, fun hint hrun => ?_, fun v hint hq hc => ?_⟩
  · rw [exec_rdIntstat_of_int_ne_zero hl hint, popAndChain_of_not_ended (s := acknowledged s) hrun]
    rfl
  · rw [exec_rdIntstat_of_int_ne_zero hl hint, popAndChain_of_alone (s := acknowledged s) hq hc]
    rfl

/-- Settles O39: the acknowledgement lowers IRQ, and the dispatch of the chained byte, which is invalid in the mode,
raises it again. -/
theorem chainedIllegalRaisesAgain : Obligations.ChainedIllegalRaisesAgain := by
  unfold Obligations.ChainedIllegalRaisesAgain
  intro s v w hl hint hq hc hv
  have hslot : slot0 { acknowledged s with cmdq := [w] } = w := slot0_cons rfl
  rw [exec_rdIntstat_of_int_ne_zero hl hint, popAndChain_of_chained (s := acknowledged s) hq hc,
    dispatch_of_invalid (hslot.symm ▸ hv), rejectIllegal_eq (s := { acknowledged s with cmdq := [w] }) hl.2, ← hc]
  simp [returnByte, acknowledged, irqRise, intStatusByte, causeBit]

/-- Settles O9: each answers the byte of its register and no more. -/
theorem plainReads : Obligations.PlainReads := by
  unfold Obligations.PlainReads
  exact fun s => ⟨rfl, rfl, rfl, rfl, rfl, toNat_fifoFlagsByte, rfl⟩

/-- Settles O10: both are plain stores into one half of `tc`. -/
theorem transferCounterWrites : Obligations.TransferCounterWrites := by
  unfold Obligations.TransferCounterWrites
  exact fun s v => ⟨decode_write _ _ _, decode_write _ _ _, exec_of_plainStore rfl, exec_of_plainStore rfl⟩

/-- Settles O12: the read after the write sees the register just stored. -/
theorem configurationWrittenAndRead : Obligations.ConfigurationWrittenAndRead := by
  unfold Obligations.ConfigurationWrittenAndRead
  exact fun s v => ⟨exec_of_plainStore rfl, rfl, rfl⟩

/-- Settles O13: the five are plain stores. -/
theorem plainStores : Obligations.PlainStores := by
  unfold Obligations.PlainStores
  exact fun s v => ⟨exec_of_plainStore rfl, exec_of_plainStore rfl, exec_of_plainStore rfl, exec_of_plainStore rfl,
    exec_of_plainStore rfl⟩
end

section
/-! SUPPORT. The FIFO data register: pushes and pops while no transfer is active, the push that starts a deferred
command, and the bytes of an active transfer up to the last, which ends it. -/

namespace Sys2Proof.Machine

open Host (Outcome)

/-! ## Operations in a row -/

theorem execAll_cons_of_next {i : Instr} {s t : State} (h : exec i s = .next t) (is : List Instr) :
    execAll (i :: is) s = execAll is t := by simp [execAll, h]

theorem execAll_append_of_next {is js : List Instr} {s t : State} (h : execAll is s = .next t) :
    execAll (is ++ js) s = execAll js t := by
  induction is generalizing s with
  | nil => rw [List.nil_append, Outcome.next.inj h]
  | cons i is ih =>
    cases hi : exec i s with
    | next u => rw [List.cons_append, execAll_cons_of_next hi, ih ((execAll_cons_of_next hi is).symm.trans h)]
    | fault r | refused r => simp [execAll, hi] at h

/-! ## Offset 0x2, by whether a transfer is active (R179, R180) -/

theorem exec_rdFifo_of_quiet {s : State} (hx : s.xferActive = false) :
    exec .rdFifo s = .next (returnByte 0x2 (fifoFront s) (fifoDrop s)) := by
  simp [exec, execRdFifo, hx]

theorem exec_rdFifo_of_active {s : State} (hx : s.xferActive = true) :
    exec .rdFifo s = .next (returnByte 0x2 (nextByte s) (dataRead s)) := by
  simp [exec, execRdFifo, hx]

theorem exec_wrFifo_of_quiet {s : State} (hx : s.xferActive = false) (v : Byte) :
    exec (.wrFifo v) s = .next (pushByte v s) := by
  simp [exec, execWrFifo, hx]

theorem exec_wrFifo_of_active {s : State} (hx : s.xferActive = true) (v : Byte) :
    exec (.wrFifo v) s = .next (dataWrite v s) := by
  simp [exec, execWrFifo, hx]

/-! ## Push and pop (R171, R172) -/

theorem fifoPush_of_room {s : State} (h : s.fifo.length < 16) (v : Byte) :
    fifoPush v s = { s with fifo := s.fifo ++ [v] } := by
  simp [fifoPush, fifoCap, h]

theorem fifoPush_of_full {s : State} (h : s.fifo.length = 16) (v : Byte) : fifoPush v s = s := by
  simp [fifoPush, fifoCap, h]

theorem pushByte_of_not_deferred {s : State} (hc : s.cstate ≠ .deferred) (v : Byte) : pushByte v s = fifoPush v s :=
  if_neg hc

theorem exec_wrFifo_of_room {s : State} (hx : s.xferActive = false) (hc : s.cstate ≠ .deferred)
    (h : s.fifo.length < 16) (v : Byte) : exec (.wrFifo v) s = .next { s with fifo := s.fifo ++ [v] } := by
  rw [exec_wrFifo_of_quiet hx, pushByte_of_not_deferred hc, fifoPush_of_room h]

theorem exec_wrFifo_of_full {s : State} (hx : s.xferActive = false) (hc : s.cstate ≠ .deferred)
    (h : s.fifo.length = 16) (v : Byte) : exec (.wrFifo v) s = .next s := by
  rw [exec_wrFifo_of_quiet hx, pushByte_of_not_deferred hc, fifoPush_of_full h]

theorem exec_rdFifo_of_cons {s : State} {w : Byte} {rest : List Byte} (hx : s.xferActive = false)
    (h : s.fifo = w :: rest) :
    exec .rdFifo s = .next { s with fifo := rest, reads := s.reads ++ [⟨0x2, w⟩] } := by
  simp [exec_rdFifo_of_quiet hx, returnByte, fifoFront, fifoDrop, h]

theorem exec_rdFifo_of_nil {s : State} (hx : s.xferActive = false) (h : s.fifo = []) :
    exec .rdFifo s = .next { s with reads := s.reads ++ [⟨0x2, 0x00#8⟩] } := by
  have hdrop : fifoDrop s = s := by rw [fifoDrop, h, List.tail_nil, ← h]
  have hfront : fifoFront s = 0x00#8 := by rw [fifoFront, h, List.headD_nil]
  rw [exec_rdFifo_of_quiet hx, hdrop, hfront]
  rfl

/-- Bytes that fit are appended in the order of their pushes. -/
theorem execAll_pushes {s : State} {bs : List Byte} (hx : s.xferActive = false) (hc : s.cstate ≠ .deferred)
    (h : s.fifo.length + bs.length ≤ 16) :
    execAll (bs.map Instr.wrFifo) s = .next { s with fifo := s.fifo ++ bs } := by
  induction bs generalizing s with
  | nil => simp [execAll]
  | cons b bs ih =>
    rw [List.length_cons] at h
    calc execAll ((b :: bs).map Instr.wrFifo) s
        = execAll (bs.map Instr.wrFifo) { s with fifo := s.fifo ++ [b] } :=
          execAll_cons_of_next (exec_wrFifo_of_room hx hc (by omega) b) _
      _ = .next { s with fifo := (s.fifo ++ [b]) ++ bs } := ih hx hc (by simp; omega)
      _ = .next { s with fifo := s.fifo ++ b :: bs } := by rw [List.append_assoc, List.singleton_append]

/-- Bytes at the front of the FIFO come back in order. -/
theorem execAll_pops {s : State} {bs rest : List Byte} (hx : s.xferActive = false) (h : s.fifo = bs ++ rest) :
    execAll (List.replicate bs.length Instr.rdFifo) s =
      .next { s with fifo := rest, reads := s.reads ++ bs.map fun b => ⟨0x2, b⟩ } := by
  induction bs generalizing s with
  | nil => simp [execAll, ← show s.fifo = rest from h]
  | cons b bs ih =>
    calc execAll (List.replicate (bs.length + 1) Instr.rdFifo) s
        = execAll (List.replicate bs.length Instr.rdFifo)
            { s with fifo := bs ++ rest, reads := s.reads ++ [⟨0x2, b⟩] } :=
          execAll_cons_of_next (exec_rdFifo_of_cons hx h) _
      _ = .next { s with fifo := rest, reads := (s.reads ++ [⟨0x2, b⟩]) ++ bs.map fun b => ⟨0x2, b⟩ } := ih hx rfl
      _ = _ := by rw [List.append_assoc, List.singleton_append, List.map_cons]

/-! ## The push under a deferred command (R180) -/

/-- The six commands that may be deferred, each with the FIFO bytes it needs: the rows of R108 above 0. -/
def deferrable : List (Byte × Nat) :=
  [(0x11#8, 1), (0x12#8, 1), (0x13#8, 2), (0x20#8, 2), (0x21#8, 2), (0x22#8, 1)]

theorem need_of_deferrable {c : Byte} {k : Nat} (h : (c, k) ∈ deferrable) : need c = k :=
  (by decide : ∀ p ∈ deferrable, need p.1 = p.2) (c, k) h

theorem isImmediate_of_deferrable {c : Byte} {k : Nat} (h : (c, k) ∈ deferrable) : isImmediate c = false :=
  (by decide : ∀ p ∈ deferrable, isImmediate p.1 = false) (c, k) h

/-- The start of a deferrable command: of a select, or of a timed target command. -/
def startDeferrable (c : Byte) (s : State) : State :=
  if isSelect c then selectStart c s else targetStart (need c) s

theorem executeCmd_of_deferrable {c : Byte} {k : Nat} (h : (c, k) ∈ deferrable) (chain : State → State) (s : State) :
    executeCmd chain c s = startDeferrable c s := by
  simp only [deferrable, List.mem_cons, Prod.mk.injEq, List.not_mem_nil, or_false] at h
  rcases h with ⟨rfl, -⟩ | ⟨rfl, -⟩ | ⟨rfl, -⟩ | ⟨rfl, -⟩ | ⟨rfl, -⟩ | ⟨rfl, -⟩ <;> rfl

/-- A start sets `cstate` and leaves the queue; neither plays a part in what else it does. -/
theorem startDeferrable_queue (c : Byte) (s : State) (q : List Byte) (x : CState) :
    startDeferrable c { s with cmdq := q, cstate := x } =
      { startDeferrable c s with cmdq := q, cstate := .executing } := by
  unfold startDeferrable
  split
  · rw [selectStart_eq, selectStart_eq, populated_congr (s := { s with cmdq := q, cstate := x }) (t := s) rfl]
    split <;> rfl
  · rfl

theorem dispatch_of_missing {s : State} (hv : valid (opcode (slot0 s)) s.mode = true)
    (hl : s.fifo.length < need (opcode (slot0 s))) : dispatch s = defer s := by
  rw [dispatch_eq, dispatchWith, if_pos hv, if_pos hl]

theorem dispatch_of_deferrable {s : State} {v : Byte} {k : Nat} {rest : List Byte} (hq : s.cmdq = v :: rest)
    (hc : (opcode v, k) ∈ deferrable) (hv : valid (opcode v) s.mode = true) (hl : k ≤ s.fifo.length) :
    dispatch s = startDeferrable (opcode v) s := by
  rw [dispatch_eq, dispatchWith, slot0_cons hq, if_pos hv, need_of_deferrable hc, if_neg (Nat.not_lt.2 hl),
    executeCmd_of_deferrable hc]

theorem defer_of_deferred {s : State} (hc : s.cstate = .deferred) : defer s = s := by rw [defer, ← hc]

theorem pushByte_of_deferred {s : State} (hc : s.cstate = .deferred) (h : s.fifo.length < 16) (b : Byte) :
    pushByte b s = dispatch { s with fifo := s.fifo ++ [b] } := by
  rw [pushByte, if_pos hc, fifoPush_of_room h]

section deferred
variable {s : State} {v : Byte} {k : Nat} {rest : List Byte} (hk : (opcode v, k) ∈ deferrable)
  (hx : s.xferActive = false) (hc : s.cstate = .deferred) (hq : s.cmdq = v :: rest)
  (hv : valid (opcode v) s.mode = true)
include hk hx hc hq hv

/-- While bytes are still missing the push only stores the byte. -/
theorem exec_wrFifo_of_missing (hl : s.fifo.length + 1 < k) (b : Byte) :
    exec (.wrFifo b) s = .next { s with fifo := s.fifo ++ [b] } := by
  have hneed := need_of_deferrable hk
  have hlen : s.fifo.length < 16 := by
    have htwo := need_le_two (opcode v)
    omega
  have hslot : slot0 { s with fifo := s.fifo ++ [b] } = v := slot0_cons hq
  have hdefer : dispatch { s with fifo := s.fifo ++ [b] } = defer { s with fifo := s.fifo ++ [b] } :=
    dispatch_of_missing (hslot.symm ▸ hv) (by simpa [hslot, hneed] using hl)
  rw [exec_wrFifo_of_quiet hx, pushByte_of_deferred hc hlen, hdefer,
    defer_of_deferred (s := { s with fifo := s.fifo ++ [b] }) hc]

/-- The push that supplies the last byte starts the command. -/
theorem exec_wrFifo_of_supplied (hl : k ≤ s.fifo.length + 1) (hroom : s.fifo.length < 16) (b : Byte) :
    exec (.wrFifo b) s = .next (startDeferrable (opcode v) { s with fifo := s.fifo ++ [b] }) := by
  rw [exec_wrFifo_of_quiet hx, pushByte_of_deferred hc hroom,
    dispatch_of_deferrable (s := { s with fifo := s.fifo ++ [b] }) hq hk hv (by simpa using hl)]

end deferred

/-- A deferrable command written to an empty queue with its bytes in the FIFO starts at once. -/
theorem exec_wrCmd_of_deferrable {s : State} {v : Byte} {k : Nat} (hk : (opcode v, k) ∈ deferrable)
    (hq : s.cmdq = []) (hv : valid (opcode v) s.mode = true) (hl : k ≤ s.fifo.length) :
    exec (.wrCmd v) s = .next (startDeferrable (opcode v) { s with cmdq := [v] }) := by
  rw [exec_of_submitted rfl, submit_of_empty hq (isImmediate_of_deferrable hk),
    dispatch_of_deferrable (s := { s with cmdq := [v] }) rfl hk hv hl]

/-! ## The bytes of an active transfer (R176 to R178) -/

theorem nextByte_of_cons {s : State} {b : Byte} {rest : List Byte} (h : s.byteIn = b :: rest) : nextByte s = b := by
  rw [nextByte, h, List.headD_cons]

theorem endIfDone_of_owed {s : State} (h : 0 < s.xferRemaining) : endIfDone s = s := if_neg h.ne'

theorem dataRead_of_owed {s : State} (h : 1 < s.xferRemaining) : dataRead s = callReadData s :=
  endIfDone_of_owed (Nat.sub_pos_of_lt h)

theorem dataWrite_of_owed {s : State} (h : 1 < s.xferRemaining) (v : Byte) : dataWrite v s = callWriteData v s :=
  endIfDone_of_owed (Nat.sub_pos_of_lt h)

/-- What the end of a transfer leaves: DRQ falls, after IRQ's edge where a waiting XFER ends with it (R178, R311). -/
def transferEnded (s : State) : State :=
  { s with
    xferActive := false
    drq := false
    phase := .status
    int := if xferWaiting s then s.int ||| 0b00010#5 else s.int
    irq := if xferWaiting s then true else s.irq
    cstate := if xferWaiting s then .completed else s.cstate
    edges := s.edges ++ (if xferWaiting s then irqRise s else []) ++ [⟨.drq, false, s.now⟩] }

theorem endIfDone_of_none_owed {s : State} (hl : LinesAgree s) (hx : s.xferActive = true) (hr : s.xferRemaining = 0) :
    endIfDone s = transferEnded s := by
  obtain ⟨hirq, hdrq⟩ := hl
  rw [endIfDone, if_pos hr, dataDone, transferEnded]
  cases hw : xferWaiting s
  · simp [updateLines, lineEdges, ← hirq, hdrq, hx]
  · rw [if_pos rfl, updateLines_of_cause (x := .commandComplete) (i := s.int) rfl]
    simp [setCause, causeBit, irqRise, hdrq, hx]

section last
variable {s : State} (hl : LinesAgree s) (hx : s.xferActive = true) (hr : s.xferRemaining = 1)
include hl hx hr

theorem exec_rdFifo_of_last {b : Byte} {rest : List Byte} (h : s.byteIn = b :: rest) :
    exec .rdFifo s = .next (returnByte 0x2 b (transferEnded (callReadData s))) := by
  rw [exec_rdFifo_of_active hx, nextByte_of_cons h, dataRead,
    endIfDone_of_none_owed (s := callReadData s) hl hx (congrArg (· - 1) hr)]

theorem exec_wrFifo_of_last (v : Byte) : exec (.wrFifo v) s = .next (transferEnded (callWriteData v s)) := by
  rw [exec_wrFifo_of_active hx, dataWrite,
    endIfDone_of_none_owed (s := callWriteData v s) hl hx (congrArg (· - 1) hr)]

end last

/-- Whether an XFER waits is settled by the queue and `cstate`: an empty queue is idle, so no XFER waits in it. -/
theorem xferWaiting_congr {s t : State} (hi : IdleIffEmpty s) (hq : t.cmdq = s.cmdq) (hc : t.cstate = s.cstate) :
    xferWaiting t = xferWaiting s := by
  by_cases hempty : s.cmdq = []
  · simp [xferWaiting, hc, hi.2 hempty]
  · rw [xferWaiting, xferWaiting, hc, slot0_congr hq hempty]

/-- What reading the bytes `bs` of a transfer leaves while more are owed, with the answers `rest` still to come. -/
def bytesRead (bs rest : List Byte) (s : State) : State :=
  { s with
    xferRemaining := s.xferRemaining - bs.length
    byteIn := rest
    freeCount := s.freeCount + bs.length
    calls := s.calls ++ List.replicate bs.length (.readData s.selTarget)
    reads := s.reads ++ bs.map fun b => ⟨0x2, b⟩ }

theorem bytesRead_nil {s : State} {rest : List Byte} (h : s.byteIn = rest) : bytesRead [] rest s = s := by
  simp [bytesRead, ← h]

theorem bytesRead_cons (b : Byte) (bs rest : List Byte) (s : State) :
    bytesRead bs rest (bytesRead [b] (bs ++ rest) s) = bytesRead (b :: bs) rest s := by
  simp [bytesRead, List.replicate_succ, Nat.sub_sub, Nat.add_assoc, Nat.add_comm 1]

theorem exec_rdFifo_of_owed {s : State} {b : Byte} {rest : List Byte} (hx : s.xferActive = true)
    (hr : 1 < s.xferRemaining) (h : s.byteIn = b :: rest) : exec .rdFifo s = .next (bytesRead [b] rest s) := by
  rw [exec_rdFifo_of_active hx, nextByte_of_cons h, dataRead_of_owed hr, callReadData, h]
  rfl

/-- The bytes of an active transfer come back in call order, one call each, while more are owed. -/
theorem execAll_reads_of_owed {s : State} {bs rest : List Byte} (hx : s.xferActive = true)
    (hr : bs.length < s.xferRemaining) (h : s.byteIn = bs ++ rest) :
    execAll (List.replicate bs.length Instr.rdFifo) s = .next (bytesRead bs rest s) := by
  induction bs generalizing s with
  | nil => exact congrArg Outcome.next (bytesRead_nil h).symm
  | cons b bs ih =>
    rw [List.length_cons] at hr
    calc execAll (List.replicate (bs.length + 1) Instr.rdFifo) s
        = execAll (List.replicate bs.length Instr.rdFifo) (bytesRead [b] (bs ++ rest) s) :=
          execAll_cons_of_next (exec_rdFifo_of_owed hx (by omega) h) _
      _ = .next (bytesRead bs rest (bytesRead [b] (bs ++ rest) s)) := ih hx (Nat.lt_sub_of_add_lt hr) rfl
      _ = .next (bytesRead (b :: bs) rest s) := by rw [bytesRead_cons]

end Sys2Proof.Machine

open Sys2Proof Sys2Proof.Machine

/-- Settles O17: the two branches of a push and the two of a pop. -/
theorem fifoPushAndPop : Obligations.FifoPushAndPop := by
  unfold Obligations.FifoPushAndPop
  exact fun s v hx => ⟨fun hc hl => exec_wrFifo_of_room hx hc hl v, fun hc hl => exec_wrFifo_of_full hx hc hl v,
    fun _ _ => exec_rdFifo_of_cons hx, exec_rdFifo_of_nil hx⟩

/-- Settles O20: with more than one byte owed the call does not end the transfer. -/
theorem dataBytePassesThrough : Obligations.DataBytePassesThrough := by
  unfold Obligations.DataBytePassesThrough
  refine fun s v hx hr => ⟨?_, ?_⟩
  · rw [exec_rdFifo_of_active hx, dataRead_of_owed hr]
    rfl
  · rw [exec_wrFifo_of_active hx, dataWrite_of_owed hr]
    rfl

/-- Settles O18: the pushes fill the FIFO with the bytes, the pops empty it again. -/
theorem fifoRoundTrip : Obligations.FifoRoundTrip := by
  unfold Obligations.FifoRoundTrip
  intro s bs hempty hx hc hlen
  have hpush := execAll_pushes (bs := bs) hx hc (by simpa [hempty] using hlen)
  have hpop := execAll_pops (s := { s with fifo := s.fifo ++ bs }) (bs := bs) (rest := []) hx (by simp [hempty])
  rw [execAll_append_of_next hpush, hpop, ← hempty]

/-- Settles O21: the write counts the last byte, and what the end of the transfer leaves turns on the waiting XFER. -/
theorem lastDataByteEndsTransfer : Obligations.LastDataByteEndsTransfer := by
  unfold Obligations.LastDataByteEndsTransfer
  intro s v hl hx hr
  have hwait : xferWaiting (callWriteData v s) = xferWaiting s := rfl
  rw [exec_wrFifo_of_last hl hx hr, transferEnded, hwait]
  constructor
  · intro hw
    simp [hw, callWriteData, irqRise, hr]
  · intro hw
    simp [hw, callWriteData, hr]

/-- Settles O22: all bytes but the last pass through, and the last one ends the transfer. -/
theorem wholeTransferRead : Obligations.WholeTransferRead := by
  unfold Obligations.WholeTransferRead
  intro s bs rest hl hi hx hr hne hin
  obtain ⟨init, b, rfl⟩ := (List.eq_nil_or_concat' bs).resolve_left hne
  rw [List.length_append, List.length_singleton] at hr ⊢
  rw [List.append_assoc, List.singleton_append] at hin
  have hinit := execAll_reads_of_owed (bs := init) hx (by omega) hin
  have hlast := exec_rdFifo_of_last (s := bytesRead init (b :: rest) s) hl hx (Nat.sub_eq_of_eq_add' hr) rfl
  have hwait : xferWaiting (callReadData (bytesRead init (b :: rest) s)) = xferWaiting s :=
    xferWaiting_congr hi rfl rfl
  have hall := (execAll_append_of_next hinit).trans (execAll_cons_of_next hlast [])
  rw [List.replicate_add]
  refine ⟨_, hall, ?_, ?_, rfl, rfl, rfl, rfl, rfl, rfl, rfl, ?_, ?_, ?_⟩
  · simp [bytesRead, transferEnded, callReadData]
  · simp [bytesRead, transferEnded, callReadData, List.replicate_succ']
  · simp [bytesRead, transferEnded, callReadData, hr]
  · rw [← hwait]
    rfl
  · rw [← hwait]
    rfl

/-- Settles O19: a deferrable command starts alike from slot 0 of either queue; the example is its select, written
out. -/
theorem pushStartsDeferred : Obligations.PushStartsDeferred := by
  unfold Obligations.PushStartsDeferred
  refine ⟨fun s v k b rest hk hx hc hq hv => ⟨fun hl => exec_wrFifo_of_missing hk hx hc hq hv hl b, fun hl hroom => ?_⟩,
    fun s v b m rest tgt hx hc hq hop hm hfifo htgt hpop => ?_⟩
  · have hstart := startDeferrable_queue (opcode v) { s with fifo := s.fifo ++ [b] }
    have hwrite := exec_wrCmd_of_deferrable (s := { s with fifo := s.fifo ++ [b], cmdq := [], cstate := .idle })
      hk rfl hv (by simpa using hl)
    refine ⟨_, hwrite.trans (congrArg _ (hstart [v] .idle)), rfl, rfl, ?_⟩
    rw [exec_wrFifo_of_supplied hk hx hc hq hv hl hroom, ← hq]
    exact congrArg _ (hstart s.cmdq s.cstate)
  · have hk : (opcode v, 2) ∈ deferrable := by rw [hop]; decide
    have hv : valid (opcode v) s.mode = true := by rw [hop, hm]; decide
    have hslot : populated { s with fifo := [m] ++ [b] } (targetOf s.busId) = true := by
      rw [targetOf_eq htgt]
      exact hpop
    rw [exec_wrFifo_of_supplied hk hx hc hq hv (by simp [hfifo]) (by simp [hfifo]), hop, hfifo, startDeferrable,
      if_pos (by decide), selectStart_eq, if_pos hslot, targetOf_eq htgt]
    rfl
end

section
/-! SUPPORT. The command decoder: a byte by what the queue holds when it is written, the dispatch that defers or
rejects, the chained dispatch, and why `cstate` moves. -/

namespace Sys2Proof.Machine

/-! ## A written byte, by what the queue holds (R186, R188) -/

theorem submit_of_not_immediate {v : Byte} (hv : isImmediate (opcode v) = false) (s : State) :
    submit v s = enqueue v s := by
  simp only [isImmediate, Bool.or_eq_false_iff, decide_eq_false_iff_not] at hv
  simp [submit, hv]

/-- R187: each immediate command is a reset of the command path. -/
theorem submit_cstate_of_immediate {v : Byte} (hv : isImmediate (opcode v) = true) (s : State) :
    (submit v s).cstate = .idle := by
  rcases submit_cases v s with ⟨-, h⟩ | ⟨-, h⟩ | ⟨-, h⟩ | ⟨hqueued, -⟩
  · rw [h]
    rfl
  · rw [h]
    rfl
  · rw [h]
    rfl
  · simp [hv] at hqueued

theorem submit_of_waiting {s : State} {v : Byte} (hv : isImmediate (opcode v) = false) (hl : s.cmdq.length = 1) :
    submit v s = { s with cmdq := s.cmdq ++ [v] } := by
  have hq : s.cmdq ≠ [] := List.ne_nil_of_length_eq_add_one hl
  simp [submit_of_not_immediate hv, enqueue, hl, hq, cmdqDepth]

theorem submit_of_full {s : State} {v : Byte} (hv : isImmediate (opcode v) = false) (hl : s.cmdq.length = 2) :
    submit v s = { s with ge := true } := by
  simp [submit_of_not_immediate hv, enqueue, hl, cmdqDepth]

/-- R190: an invalid byte written to an empty queue ends in slot 0 with the Illegal Command. -/
theorem submit_of_invalid {s : State} {v : Byte} (hl : LinesAgree s) (hq : s.cmdq = [])
    (hi : isImmediate (opcode v) = false) (hv : valid (opcode v) s.mode = false) :
    submit v s = { s with
      cmdq := [v], cstate := .completed, int := s.int ||| 0b00100#5, irq := true, edges := s.edges ++ irqRise s } := by
  have hslot : slot0 { s with cmdq := [v] } = v := slot0_cons rfl
  rw [submit_of_empty hq hi, dispatch_of_invalid (hslot.symm ▸ hv),
    rejectIllegal_eq (s := { s with cmdq := [v] }) hl.2]
  rfl

/-- The immediate commands are rows of the opcode map (R104, R187). -/
theorem isImmediate_of_not_hasOpcode {v : Byte} (h : hasOpcode v = false) : isImmediate (opcode v) = false := by
  rw [Bool.eq_false_iff] at h ⊢
  intro hi
  have hsub : [0x00#8, 0x02#8, 0x03#8] ⊆ legalOpcodes := by decide
  exact h ((hasOpcode_iff v).2 (hsub ((isImmediate_iff _).1 hi)))

/-! ## The table of R108 -/

theorem need_eq (c : Byte) :
    need c = if c ∈ [0x13#8, 0x20#8, 0x21#8] then 2 else if c ∈ [0x11#8, 0x12#8, 0x22#8] then 1 else 0 := by
  revert c
  decide

/-- Only the six deferrable commands need bytes. -/
theorem need_eq_zero_of_notMem {c : Byte} (h : c ∉ deferrable.map Prod.fst) : need c = 0 := by
  simp only [deferrable, List.map_cons, List.map_nil, List.mem_cons, List.not_mem_nil, or_false, not_or] at h
  simp [need_eq, h]

theorem need_of_isImmediate {c : Byte} (h : isImmediate c = true) : need c = 0 := by
  rw [isImmediate_iff] at h
  exact (by decide : ∀ c ∈ [0x00#8, 0x02#8, 0x03#8], need c = 0) c h

/-! ## What a dispatch leaves in `cstate` (R190 to R192) -/

@[simp] theorem selectStart_cstate (c : Byte) (s : State) : (selectStart c s).cstate = .executing := by
  rw [selectStart_eq]
  split <;> rfl

@[simp] theorem doXfer_cstate (s : State) : (doXfer s).cstate = .executing := by
  unfold doXfer
  split <;> rfl

/-- A command that needs bytes waits for them or runs, once it is valid. -/
theorem dispatch_cstate_of_need_pos {s : State} (hv : valid (opcode (slot0 s)) s.mode = true)
    (hneed : 0 < need (opcode (slot0 s))) : (dispatch s).cstate = .deferred ∨ (dispatch s).cstate = .executing := by
  have hzero : ∀ {c : Byte}, need c = 0 → opcode (slot0 s) ≠ c := fun hc h => by simp [h, hc] at hneed
  rcases dispatch_cases s with ⟨hinv, -⟩ | ⟨-, -, h⟩ | ⟨-, ⟨hc, -⟩ | ⟨-, -, h⟩ | ⟨-, -, h⟩ | ⟨hc, -⟩ | ⟨hc, -⟩ |
    ⟨hc, -⟩ | ⟨hc, -⟩⟩
  · simp [hv] at hinv
  · exact .inl (by rw [h, defer_cstate])
  · exact absurd hc (hzero rfl)
  · exact .inr (by rw [h, selectStart_cstate])
  · exact .inr (by rw [h, targetStart_cstate])
  · exact absurd hc (hzero rfl)
  · exact absurd hc (hzero rfl)
  · exact absurd hc (hzero rfl)
  · exact absurd rfl (hzero (need_of_isImmediate hc))

/-- A command alone in the queue that needs no bytes and is not immediate is rejected, run or ended. -/
theorem Dispatched.cstate_ne_deferred {s t : State} {v : Byte} (h : Dispatched s t) (hq : s.cmdq = [v])
    (hv : isImmediate (opcode v) = false) (hneed : need (opcode v) = 0) : t.cstate ≠ .deferred := by
  cases h with
  | reject | flushNothing | flushLast | target | connection => exact nofun
  | defer _ hl => simp [slot0_cons hq, hneed] at hl
  | flushChain hchain => simp [hq] at hchain
  | select => simp
  | xfer => simp
  | immediate hc => simp [slot0_cons hq, hv] at hc

/-- A dispatch of a command that is not immediate overwrites `cstate` without a look at it. -/
theorem dispatch_of_cstate {s : State} (hi : isImmediate (opcode (slot0 s)) = false) (x : CState) :
    dispatch { s with cstate := x } = dispatch s := by
  have hslot : slot0 { s with cstate := x } = slot0 s := rfl
  rw [dispatch_eq, dispatch_eq, dispatchWith, dispatchWith, hslot]
  split
  next hv =>
    split
    · rfl
    · rcases valid_cases _ _ hv with h | h | ⟨h, -⟩ | ⟨h | h | h, -⟩ | ⟨h, -⟩ | ⟨h, -⟩ | ⟨h, -⟩
      · simp [hi] at h
      · rw [h]
        rfl
      · simp only [isSelect, Bool.or_eq_true, decide_eq_true_eq] at h
        rcases h with ((h | h) | h) | h <;> rw [h] <;> rfl
      all_goals
        rw [h]
        rfl
  next => rfl

/-! ## The moves of `cstate` (R199) -/

theorem fire_cstate {s : State} {p : Pending} (hp : s.pending = some p) : (fire s).cstate = .completed := by
  rcases fire_cases s with ⟨hnone, -⟩ | ⟨_, -, h⟩ | ⟨_, -, h⟩
  · cases hnone.symm.trans hp
  · rw [h]
    rfl
  · rw [h]
    rfl

/-- Before the deadline time only passes (R297). -/
theorem advance_of_not_due {n : Nat} {s : State} (h : ∀ p ∈ s.pending, s.now + n < p.deadline) :
    advance n s = { s with now := s.now + n } := by
  induction n generalizing s with
  | zero => rfl
  | succ n ih =>
    have hdue : due (tick s) = false := by
      cases hp : s.pending with
      | none => exact due_of_none (s := tick s) hp
      | some p =>
        have hlt := h p hp
        have hahead : ¬ p.deadline ≤ s.now + 1 := by omega
        exact (due_of_some (s := tick s) hp).trans (decide_eq_false hahead)
    have hcycle : cycle s = tick s := by simp [cycle, hdue]
    calc advance (n + 1) s = advance n (tick s) := congrArg (advance n) hcycle
      _ = { s with now := s.now + 1 + n } := ih fun p hp => by
        have hlt := h p hp
        exact (by omega : s.now + 1 + n < p.deadline)
      _ = { s with now := s.now + (n + 1) } := by rw [Nat.add_right_comm, Nat.add_assoc]

/-- A time advance leaves `cstate`, or ends the command by the completion whose deadline it reaches. -/
theorem advance_cstate (n : Nat) (s : State) :
    (advance n s).cstate = s.cstate ∨
    ∃ p, s.pending = some p ∧ p.deadline ≤ s.now + n ∧ (advance n s).cstate = .completed := by
  by_cases hdue : ∀ p ∈ s.pending, s.now + n < p.deadline
  · exact .inl (by rw [advance_of_not_due hdue])
  · push Not at hdue
    obtain ⟨p, hp, hd⟩ := hdue
    rcases advance_cases n s with h | ⟨k, -, -, h⟩
    · exact .inl (by rw [h])
    · exact .inr ⟨p, hp, hd, by rw [h]; exact fire_cstate (s := { s with now := k }) hp⟩

/-- Why an operation leads from one value of `cstate` to another: it stays, or one of the causes of R199 moves it. -/
inductive CStateMoved (s : State) (i : Instr) (t : State) : Prop
  | stays (ht : t.cstate = s.cstate)
  | written {v : Byte} (hi : submitted i = some v) (hv : isImmediate (opcode v) = false) (hs : s.cstate = .idle)
  | reset (hi : isAnyReset i = true) (ht : t.cstate = .idle)
  | acknowledged (hi : i = .rdIntstat) (hint : s.int ≠ 0b00000#5) (hs : s.cstate = .completed)
      (ht : t.cstate = .idle ∨ s.cmdq.length = 2)
  | pushed {v : Byte} (hi : i = .wrFifo v) (hs : s.cstate = .deferred) (ht : t.cstate = .executing)
  | fellDue {n : Nat} {p : Pending} (hi : i = .adv n) (hp : s.pending = some p) (hd : p.deadline ≤ s.now + n)
      (hs : s.cstate = .executing) (ht : t.cstate = .completed)
  | lastByte (hi : i = .rdFifo ∨ ∃ v, i = .wrFifo v) (hx : s.xferActive = true) (hr : s.xferRemaining = 1)
      (hop : opcode (slot0 s) = 0x30#8) (hs : s.cstate = .executing) (ht : t.cstate = .completed)

section CStateMoved
variable {s : State} (h : MachineInv s)
include h

theorem MachineInv.cstate_of_pending {p : Pending} (hp : s.pending = some p) : s.cstate = .executing := by
  by_contra hc
  obtain ⟨hnone, -⟩ := h.atRest hc
  cases hnone.symm.trans hp

theorem MachineInv.idleIffEmpty : IdleIffEmpty s := by
  obtain ⟨⟨-, -, hidle, -⟩, -⟩ := h
  exact hidle

theorem cstateMoved_submit {i : Instr} {v : Byte} (hi : submitted i = some v) : CStateMoved s i (submit v s) := by
  cases hv : isImmediate (opcode v) with
  | true => exact .reset (by simpa [isAnyReset, hi] using hv) (submit_cstate_of_immediate hv s)
  | false =>
    rw [submit_of_not_immediate hv, enqueue]
    split
    next => exact .stays rfl
    next =>
      split
      next hq => exact .written hi hv (h.idleIffEmpty.2 hq)
      next => exact .stays rfl

theorem cstateMoved_readIntStatus {t : State} (ht : t.cstate = (readIntStatus s).cstate) :
    CStateMoved s .rdIntstat t := by
  rw [readIntStatus_eq] at ht
  split at ht
  next => exact .stays ht
  next hint =>
    rcases popAndChain_cases (acknowledge s) with ⟨-, h'⟩ | ⟨_, -, hc, h'⟩ | ⟨v, w, rest, hq, hc, -⟩
    · exact .stays (by rw [ht, h']; rfl)
    · exact .acknowledged rfl hint hc (.inl (ht.trans (congrArg State.cstate h')))
    · have hq : s.cmdq = v :: w :: rest := hq
      have hfits : s.cmdq.length ≤ 2 := h.queueSound.fits
      have hlen : s.cmdq.length = rest.length + 2 := by rw [hq]; rfl
      exact .acknowledged rfl hint hc (.inr (by omega))

/-- The push under a deferred command starts it or leaves it deferred: it is valid, and it is one that needs bytes. -/
theorem cstateMoved_pushByte (v : Byte) : CStateMoved s (.wrFifo v) (pushByte v s) := by
  unfold pushByte
  split
  next hc =>
    obtain ⟨-, -, -, hlacks, -⟩ := h
    obtain ⟨hv, hl⟩ := hlacks hc
    rcases dispatch_cstate_of_need_pos (s := fifoPush v s) hv (Nat.zero_lt_of_lt hl) with ht | ht
    · exact .stays (ht.trans hc.symm)
    · exact .pushed rfl hc ht
  next => exact .stays rfl

/-- A byte of an active transfer ends the command only as the last one, under an XFER. -/
theorem cstateMoved_endIfDone {i : Instr} {t : State} (hi : i = .rdFifo ∨ ∃ v, i = .wrFifo v) (hx : s.xferActive = true)
    (byteIn : List Byte) (freeCount : Nat) (calls : List DeviceCall)
    (ht : t.cstate = (endIfDone (byteMoved byteIn freeCount calls s)).cstate) : CStateMoved s i t := by
  rcases endIfDone_cases (byteMoved byteIn freeCount calls s) with ⟨-, h'⟩ | ⟨hr, hw, h'⟩ | ⟨-, -, h'⟩ <;> rw [h'] at ht
  · exact .stays ht
  · rw [xferWaiting_congr (t := byteMoved byteIn freeCount calls s) h.idleIffEmpty rfl rfl] at hw
    obtain ⟨hs, hop⟩ : s.cstate = .executing ∧ opcode (slot0 s) = 0x30#8 := by simpa [xferWaiting] using hw
    obtain ⟨howed, -⟩ := h.busSound.transfer hx
    have hr : s.xferRemaining - 1 = 0 := hr
    exact .lastByte hi hx (by omega) hop hs ht
  · exact .stays ht

theorem Effect.cstateMoved {i : Instr} {t : State} (he : Effect s i t) : CStateMoved s i t := by
  cases he with
  | command hi => exact cstateMoved_submit h hi
  | store hst => exact .stays (by rw [plainStore_eq hst])
  | view _ _ _ => exact .stays rfl
  | pop _ => exact .stays rfl
  | readDevice hx => exact cstateMoved_endIfDone h (.inl rfl) hx _ _ _ rfl
  | acknowledge => exact cstateMoved_readIntStatus h rfl
  | push v _ => exact cstateMoved_pushByte h v
  | writeDevice v hx => exact cstateMoved_endIfDone h (.inr ⟨v, rfl⟩) hx _ _ _ rfl
  | hardReset => exact .reset rfl rfl
  | advance n =>
    rcases advance_cstate n s with ht | ⟨p, hp, hd, ht⟩
    · exact .stays ht
    · exact .fellDue rfl hp hd (h.cstate_of_pending hp) ht
  | notDue _ => exact .stays rfl
  | timeout hp hd => exact absurd hd (h.deadline_ahead hp).not_ge
  | complete hp hd => exact absurd hd (h.deadline_ahead hp).not_ge

end CStateMoved

theorem cstateMove_self (c : CState) : cstateMove c c = true := by cases c <;> rfl

theorem cstateMove_idle (c : CState) : cstateMove c .idle = true := by cases c <;> rfl

end Sys2Proof.Machine

open Sys2Proof Sys2Proof.Machine

/-- Settles O54: each effect of an operation stays or moves `cstate` by one of the causes of R199, and each cause
answers the clause of the value it starts from. -/
theorem commandStateMoves : Obligations.CommandStateMoves := by
  unfold Obligations.CommandStateMoves
  intro i s t hinv hexec
  cases (effect_of_exec hexec).cstateMoved hinv with
  | stays ht => simp_all [cstateMove_self]
  | written hi hv hs => simp [hs, hi, hv, cstateMove]
  | reset hi ht => simp [hi, ht, cstateMove_idle]
  | acknowledged hi hint hs ht => simp [hs, hi, hint, ht, cstateMove]
  | pushed hi hs ht => simp [hs, hi, ht, cstateMove]
  | fellDue hi hp hd hs ht => simp [hs, hi, hp, hd, ht, cstateMove]
  | lastByte hi hx hr hop hs ht => simp [hs, hi, hx, hr, hop, ht, cstateMove]

/-- Settles O23: both forms submit a byte that is not immediate and is invalid in the mode. -/
theorem illegalCommandRejected : Obligations.IllegalCommandRejected := by
  unfold Obligations.IllegalCommandRejected
  refine fun s v hl hq => ⟨fun hi hv => ?_, fun hop => ?_⟩
  · rw [exec_of_submitted rfl, submit_of_invalid hl hq hi hv]
  · rw [exec_of_submitted rfl, submit_of_invalid hl hq (isImmediate_of_not_hasOpcode hop)
      (valid_of_not_hasOpcode hop _)]

/-- Settles O38: the read acknowledges, pops and dispatches the chained byte, and so does its write to the empty queue;
that the read comes from COMPLETED and the write from IDLE makes no difference to the dispatch. -/
theorem chainedCommandStarts : Obligations.ChainedCommandStarts := by
  unfold Obligations.ChainedCommandStarts
  intro s v w hl hint hq hc hw
  have hslot : slot0 { acknowledged s with cmdq := [w] } = w := slot0_cons rfl
  have hwrite := submit_of_empty (s := { acknowledged s with cmdq := [], cstate := .idle }) rfl hw
  refine ⟨_, exec_of_submitted rfl _, ?_⟩
  rw [exec_rdIntstat_of_int_ne_zero hl hint, popAndChain_of_chained (s := acknowledged s) hq hc,
    ← dispatch_of_cstate (hslot.symm ▸ hw) .idle]
  exact congrArg (fun t => Host.Outcome.next (returnByte 0x5 (intStatusByte s) t)) hwrite.symm

/-- Settles O24: the two sides of the overrun guard. -/
theorem secondWaitsThirdIsLost : Obligations.SecondWaitsThirdIsLost := by
  unfold Obligations.SecondWaitsThirdIsLost
  exact fun s v hv => ⟨fun hl => congrArg Host.Outcome.next (submit_of_waiting hv hl),
    fun hl => congrArg Host.Outcome.next (submit_of_full hv hl)⟩

/-- Settles O25: a deferrable command without its bytes is deferred by the dispatch, and no command that needs none
is. -/
theorem missingBytesDefer : Obligations.MissingBytesDefer := by
  unfold Obligations.MissingBytesDefer
  refine ⟨fun s v k hk hq hv hl => ?_, fun s v t hop hq hexec => ?_, need_eq⟩
  · have hslot : slot0 { s with cmdq := [v] } = v := slot0_cons rfl
    have hdefer := dispatch_of_missing (s := { s with cmdq := [v] }) (hslot.symm ▸ hv)
      (by simpa [hslot, need_of_deferrable hk] using hl)
    rw [exec_of_submitted rfl, submit_of_empty hq (isImmediate_of_deferrable hk), hdefer]
    rfl
  · cases (exec_of_submitted rfl s).symm.trans hexec
    cases hv : isImmediate (opcode v) with
    | true => simp [submit_cstate_of_immediate hv]
    | false =>
      rw [submit_of_empty hq hv]
      exact (dispatched_dispatch _).cstate_ne_deferred rfl hv (need_eq_zero_of_notMem hop)
end

section
/-! SUPPORT. The miscellaneous commands: the three resets written out with the edges of their `update_lines()`, the
bytes that reach them, and the dispatch of `FLUSH`. -/

namespace Sys2Proof.Machine

/-! ## The lines of a reset (R311) -/

/-- R310, R311: where no transfer is active the line update leaves DRQ low, with an edge when it was high. -/
theorem updateLines_of_transfer_off {s : State} (hx : s.xferActive = false) :
    updateLines s = { s with
      irq := s.int != 0#5, drq := false
      edges := s.edges ++ (if (s.int != 0#5) = s.irq then [] else [⟨.irq, s.int != 0#5, s.now⟩]) ++ drqFall s } := by
  simp only [updateLines, lineEdges, drqFall, hx, List.append_assoc]
  cases s.drq <;> rfl

/-- R216: the soft reset leaves the causes alone, so IRQ stays and only DRQ can fall. -/
theorem doReset_eq {s : State} (hirq : s.irq = (s.int != 0#5)) :
    doReset s = { softReset s with drq := false, edges := s.edges ++ drqFall s } := by
  rw [doReset, updateLines_of_transfer_off rfl, softReset_int, ← hirq, softReset_irq, if_pos rfl, softReset_edges,
    List.append_nil]
  rfl

/-- R219, R316: the bus reset raises `RS` on top of the soft reset, so IRQ rises before DRQ falls. -/
theorem doBusReset_eq (s : State) :
    doBusReset s = { softReset s with
      int := s.int ||| causeBit .reset, irq := true, drq := false
      edges := s.edges ++ irqRise s ++ drqFall s } := by
  rw [doBusReset, updateLines_of_transfer_off rfl]
  cases h : s.irq <;> simp [h, setCause, softReset, irqRise, drqFall]

/-- R218, R350: the full reset brings both lines down, IRQ first. -/
theorem doDevReset_eq (s : State) :
    doDevReset s = { fullReset s with
      irq := false, drq := false, edges := s.edges ++ irqFall s ++ drqFall s } := by
  rw [doDevReset, updateLines_of_transfer_off rfl]
  cases h : s.irq <;> simp [h, fullReset, irqFall, drqFall]

/-! ## The commands by their bytes (R186, R187) -/

theorem submit_of_reset {v : Byte} (h : opcode v = 0x00#8) (s : State) : submit v s = doReset s := by
  simp [submit, h]

theorem submit_of_devReset {v : Byte} (h : opcode v = 0x02#8) (s : State) : submit v s = doDevReset s := by
  simp [submit, h]

theorem submit_of_busReset {v : Byte} (h : opcode v = 0x03#8) (s : State) : submit v s = doBusReset s := by
  simp [submit, h]

/-- R217: `FLUSH` is valid in every mode and needs no byte, so its dispatch empties the FIFO, ends it and pops it. -/
theorem dispatch_of_flush {s : State} (h : opcode (slot0 s) = 0x01#8) :
    dispatch s = popAndChain { s with fifo := [], cstate := .completed } := by
  rw [dispatch_eq, dispatchWith, h]
  rfl

/-- R217: written to an idle command path, `FLUSH` has left slot 0 again when the write ends. -/
theorem submit_of_flush {s : State} {v : Byte} (h : opcode v = 0x01#8) (hq : s.cmdq = []) (hc : s.cstate = .idle) :
    submit v s = { s with fifo := [] } := by
  have hslot : slot0 { s with cmdq := [v] } = v := slot0_cons rfl
  have hidle : ({ s with cmdq := [], cstate := .idle } : State) = s := by rw [← hq, ← hc]
  rw [submit_of_empty hq (h ▸ rfl), dispatch_of_flush (hslot.symm ▸ h), popAndChain_of_alone rfl rfl]
  exact congrArg fifoFlush hidle

end Sys2Proof.Machine

open Sys2Proof Sys2Proof.Machine

/-- Settles O26: the row and the write submit the same byte, whose dispatch from an idle path ends at once. -/
theorem flushEndsAtOnce : Obligations.FlushEndsAtOnce := by
  unfold Obligations.FlushEndsAtOnce
  intro s x hq hc
  have hflush := submit_of_flush (opcode_commandByte_flush x) hq hc
  exact ⟨(exec_of_submitted rfl s).trans (congrArg _ hflush), (exec_of_submitted rfl s).trans (congrArg _ hflush)⟩

/-- Settles O27: both commands are immediate, so the queue is not asked, and each is its reset with the lines
updated. -/
theorem partialResets : Obligations.PartialResets := by
  unfold Obligations.PartialResets
  refine fun s x ⟨hirq, _⟩ => ⟨?_, ?_⟩
  · rw [exec_of_submitted rfl, submit_of_reset (opcode_commandByte_zero x), doReset_eq hirq]
    rfl
  · rw [exec_of_submitted rfl, submit_of_busReset (opcode_commandByte_busReset x), doBusReset_eq]
    rfl

/-- Settles O28: the command and the event are the one full reset. -/
theorem fullResets : Obligations.FullResets := by
  unfold Obligations.FullResets
  intro s x i hi
  have hexec : exec i s = .next (doDevReset s) := by
    rcases List.mem_pair.1 hi with rfl | rfl
    · rw [exec_of_submitted rfl, submit_of_devReset (opcode_commandByte_devReset x)]
    · rfl
  rw [hexec, doDevReset_eq]
  rfl
end


section
/-! SUPPORT. The selects: their four rows, the start against an empty and against a populated slot, the time advance up
to a deadline, and the two completions written out with their edges. -/

namespace Sys2Proof.Machine

/-! ## The rows of the selects (R104, R108, R109) -/

/-- What the start of a select reads of its row: the byte submitted, its opcode `c`, the `k` bytes it needs, and
whether the first of them is a message byte. -/
structure SelectRow (x : Bool) (i : Instr) (c : Byte) (k : Nat) : Prop where
  submits : submitted i = some (commandByte c x)
  opcode_eq : opcode (commandByte c x) = c
  select : isSelect c = true
  needs : need c = k
  atn_iff : atnFlag c = true ↔ i = .selAtn x ∨ i = .selAtnXfer x

theorem selectRow_of_mem {x : Bool} {i : Instr} {c : Byte} {k : Nat}
    (h : (i, c, k) ∈ [(Instr.select x, 0x10#8, 0), (.selXfer x, 0x11#8, 1), (.selAtn x, 0x12#8, 1),
      (.selAtnXfer x, 0x13#8, 2)]) : SelectRow x i c k := by
  simp only [List.mem_cons, Prod.mk.injEq, List.not_mem_nil, or_false] at h
  rcases h with ⟨rfl, rfl, rfl⟩ | ⟨rfl, rfl, rfl⟩ | ⟨rfl, rfl, rfl⟩ | ⟨rfl, rfl, rfl⟩
  · exact ⟨rfl, opcode_commandByte_select x, rfl, rfl, iff_of_false (by decide) (by simp)⟩
  · exact ⟨rfl, opcode_commandByte_selXfer x, rfl, rfl, iff_of_false (by decide) (by simp)⟩
  · exact ⟨rfl, opcode_commandByte_selAtn x, rfl, rfl, iff_of_true rfl (.inl rfl)⟩
  · exact ⟨rfl, opcode_commandByte_selAtnXfer x, rfl, rfl, iff_of_true rfl (.inr rfl)⟩

theorem isSelect_iff (c : Byte) : isSelect c = true ↔ c ∈ [0x10#8, 0x11#8, 0x12#8, 0x13#8] := by
  simp [isSelect, or_assoc]

theorem isImmediate_of_isSelect {c : Byte} (h : isSelect c = true) : isImmediate c = false :=
  (by decide : ∀ c ∈ [0x10#8, 0x11#8, 0x12#8, 0x13#8], isImmediate c = false) c ((isSelect_iff c).1 h)

theorem valid_of_isSelect {c : Byte} (h : isSelect c = true) : valid c .disconnected = true :=
  (by decide : ∀ c ∈ [0x10#8, 0x11#8, 0x12#8, 0x13#8], valid c .disconnected = true) c ((isSelect_iff c).1 h)

/-! ## The start of a select (R233 to R235) -/

theorem executeCmd_of_isSelect {c : Byte} (h : isSelect c = true) (chain : State → State) (s : State) :
    executeCmd chain c s = selectStart c s := by
  rw [isSelect_iff] at h
  simp only [List.mem_cons, List.not_mem_nil, or_false] at h
  rcases h with rfl | rfl | rfl | rfl <;> rfl

/-- In mode `D`, with its bytes in the FIFO, a select in slot 0 starts. -/
theorem dispatch_of_isSelect {s : State} (hc : isSelect (opcode (slot0 s)) = true) (hm : s.mode = .disconnected)
    (hl : need (opcode (slot0 s)) ≤ s.fifo.length) : dispatch s = selectStart (opcode (slot0 s)) s := by
  rw [dispatch_eq, dispatchWith, hm, if_pos (valid_of_isSelect hc), if_neg (Nat.not_lt.2 hl),
    executeCmd_of_isSelect hc]

/-- The state a select leaves that has called its device and waits for the Command-Complete. -/
def selectCalled (c : Byte) (x : Bool) (s : State) : State :=
  { s with
    cmdq := [commandByte c x]
    cstate := .executing
    selTarget := targetOf s.busId
    phase := .command
    cmdPhase := 0x00#8
    pending := some ⟨.cc, s.now + ccDelay s.units s.ccf⟩
    fifo := []
    xferRemaining := nextLength s
    lenIn := s.lenIn.tail
    freeCount := s.freeCount + 1
    calls := s.calls ++ [.execute (targetOf s.busId) (cdbOf c s.fifo)] }

section start
variable {x : Bool} {i : Instr} {c : Byte} {k : Nat} {s : State} (hrow : SelectRow x i c k) (hq : s.cmdq = [])
  (hm : s.mode = .disconnected) (hl : k ≤ s.fifo.length)
include hrow hq hm hl

theorem exec_of_selectRow : exec i s = .next (selectStart c { s with cmdq := [commandByte c x] }) := by
  have hop : opcode (slot0 { s with cmdq := [commandByte c x] }) = c := hrow.opcode_eq
  have hstart := dispatch_of_isSelect (s := { s with cmdq := [commandByte c x] }) (hop.symm ▸ hrow.select) hm
    (by rw [hop, hrow.needs]; exact hl)
  rw [exec_of_submitted hrow.submits,
    submit_of_empty hq (hrow.opcode_eq.symm ▸ isImmediate_of_isSelect hrow.select), hstart, hop]

/-- Against an empty slot the start only latches the target and schedules the Select-Timeout (R235). -/
theorem exec_select_of_empty (hp : populated s (targetOf s.busId) = false) :
    exec i s = .next (selectLatch { s with cmdq := [commandByte c x] }) := by
  have hempty : ¬ populated { s with cmdq := [commandByte c x] } (targetOf s.busId) = true := Bool.eq_false_iff.1 hp
  rw [exec_of_selectRow hrow hq hm hl, selectStart, if_neg hempty]

/-- Against a populated slot the start goes on to the call of the device and the Command-Complete (R234). -/
theorem exec_select_of_populated (hp : populated s (targetOf s.busId) = true) :
    exec i s = .next (selectCalled c x s) := by
  have hslot : populated { s with cmdq := [commandByte c x] } (targetOf s.busId) = true := hp
  rw [exec_of_selectRow hrow hq hm hl, selectStart_eq, if_pos hslot]
  rfl

end start

/-! ## The time advance up to a deadline (R297, R300) -/

theorem advance_add (m n : Nat) (s : State) : advance (m + n) s = advance n (advance m s) := by
  induction m generalizing s with
  | zero => rw [Nat.zero_add, advance]
  | succ m ih => rw [Nat.add_right_comm, advance, advance, ih]

/-- The completion fires in the cycle that reaches its deadline: the cycles before it only pass, and it is the last. -/
theorem advance_to_deadline {s : State} {p : Pending} {d : Nat} (hp : s.pending = some p) (hd : p.deadline = s.now + d)
    (hpos : 0 < d) : advance d s = fire { s with now := s.now + d } := by
  obtain ⟨m, rfl⟩ := Nat.exists_eq_add_one.2 hpos
  have hpass : advance m s = { s with now := s.now + m } := by
    refine advance_of_not_due fun q hq => ?_
    cases hp.symm.trans hq
    omega
  have hdue : due { s with now := s.now + (m + 1) } = true := by
    rw [due_of_some (s := { s with now := s.now + (m + 1) }) hp, decide_eq_true_eq]
    exact hd.le
  calc advance (m + 1) s = cycle { s with now := s.now + m } := by rw [advance_add, hpass]; rfl
    _ = fire { s with now := s.now + (m + 1) } := if_pos hdue

/-- R293: a Select-Timeout is delivered at its deadline. -/
theorem advance_to_selectTimeout {s : State} {d : Nat} (hp : s.pending = some ⟨.sel, s.now + d⟩) (hpos : 0 < d) :
    advance d s = onSelectTimeout { cancel s with now := s.now + d } := by
  rw [advance_to_deadline hp rfl hpos, fire, hp]
  rfl

/-- R294: a Command-Complete is delivered at its deadline. -/
theorem advance_to_commandComplete {s : State} {d : Nat} (hp : s.pending = some ⟨.cc, s.now + d⟩) (hpos : 0 < d) :
    advance d s = onCommandComplete { cancel s with now := s.now + d } := by
  rw [advance_to_deadline hp rfl hpos, fire, hp]
  rfl

theorem execAll_then_adv {i : Instr} {s t : State} (h : exec i s = .next t) (n : Nat) :
    execAll [i, .adv n] s = .next (advance n t) := execAll_cons_of_next h _

/-! ## The two completions with their edges (R293, R295, R311) -/

/-- R293: the Select-Timeout switches a transfer off and raises `ST`, so IRQ rises before DRQ falls. -/
theorem onSelectTimeout_eq (s : State) :
    onSelectTimeout s = { s with
      int := s.int ||| causeBit .selectTimeout
      cmdPhase := 0x00#8
      mode := .disconnected
      phase := .free
      tc := 0x0000#16
      xferActive := false
      xferRemaining := 0
      cstate := .completed
      irq := true
      drq := false
      edges := s.edges ++ irqRise s ++ drqFall s } := by
  rw [onSelectTimeout, updateLines_of_transfer_off rfl]
  cases h : s.irq <;> simp [h, setCause, irqRise, drqFall]

/-- R294, R295: the Command-Complete of a select, entered without a transfer: mode `I`, and an `XFER` variant arms the
transfer when the device owes bytes, so DRQ may rise after IRQ. -/
theorem onCommandComplete_of_select {s : State} {c : Byte} (hop : opcode (slot0 s) = c) (hc : isSelect c = true)
    (hx : s.xferActive = false) (hd : s.drq = false) :
    onCommandComplete s = { s with
      int := s.int ||| causeBit .commandComplete
      mode := .initiator
      cmdPhase := if xferFlag c then 0x60#8 else 0x10#8
      phase := if 0 < s.xferRemaining then .data else .status
      xferActive := xferFlag c && decide (0 < s.xferRemaining)
      cstate := .completed
      irq := true
      drq := xferFlag c && decide (0 < s.xferRemaining)
      edges := s.edges ++ irqRise s ++
        (if xferFlag c && decide (0 < s.xferRemaining) then [⟨.drq, true, s.now⟩] else []) } := by
  rw [onCommandComplete_eq, hop, if_pos hc, updateLines_of_cause rfl, hx, Bool.false_or]
  cases xferFlag c && decide (0 < s.xferRemaining) <;> simp [hd, irqRise]

/-- With no cause pending IRQ is low. -/
theorem irq_of_int_eq_zero {s : State} (hl : LinesAgree s) (h : s.int = 0#5) : s.irq = false := by
  rw [hl.1, h]
  rfl

/-- In mode `D` no transfer is active, so DRQ is low. -/
theorem drq_of_disconnected {s : State} (hl : LinesAgree s) (hdq : DisconnectedQuiet s) (hm : s.mode = .disconnected) :
    s.drq = false := hl.2.trans (hdq hm).2

end Sys2Proof.Machine

open Sys2Proof Sys2Proof.Machine

/-- Settles O30: the start against an empty slot is the latch alone. -/
theorem selectOfEmptySlot : Obligations.SelectOfEmptySlot := by
  unfold Obligations.SelectOfEmptySlot
  intro s x i c k tgt hmem hq hm hl htgt hp
  obtain rfl := targetOf_eq htgt
  rw [exec_select_of_empty (selectRow_of_mem hmem) hq hm hl hp, selectLatch, schedule, selDelay]

/-- Settles O31: the start against a populated slot, with the CDB read off the row. -/
theorem selectOfPopulatedSlot : Obligations.SelectOfPopulatedSlot := by
  unfold Obligations.SelectOfPopulatedSlot
  intro s x i c k tgt hmem hq hm hl htgt hp
  obtain rfl := targetOf_eq htgt
  have hrow := selectRow_of_mem hmem
  have hcdb : cdbOf c s.fifo = if i = .selAtn x ∨ i = .selAtnXfer x then s.fifo.tail else s.fifo :=
    if_congr hrow.atn_iff rfl rfl
  rw [exec_select_of_populated hrow hq hm hl hp, selectCalled, hcdb, ccDelay]

/-- Settles O32: before the deadline time only passes over the latched select, and at the deadline the Select-Timeout
raises the one cause. -/
theorem selectTimesOutOnce : Obligations.SelectTimesOutOnce := by
  unfold Obligations.SelectTimesOutOnce
  intro s x i c k tgt hmem hlines hdq hint hq hm hl htgt hp
  obtain rfl := targetOf_eq htgt
  have hstart := exec_select_of_empty (selectRow_of_mem hmem) hq hm hl hp
  refine ⟨?_, fun n hn => ?_⟩
  · have hirq := irq_of_int_eq_zero hlines hint
    have hdrq := drq_of_disconnected hlines hdq hm
    have hfired := (advance_to_selectTimeout (selectLatch_pending { s with cmdq := [commandByte c x] })
      (selDelay_pos _ _ _)).trans (onSelectTimeout_eq _)
    refine ⟨_, (execAll_then_adv hstart _).trans (congrArg _ hfired), ?_,
      rfl, rfl, rfl, rfl, rfl, rfl, rfl, rfl, rfl, ?_⟩
    · exact congrArg (· ||| causeBit .selectTimeout) hint
    · simp [irqRise, drqFall, hirq, hdrq]
  · have hpass : advance n (selectLatch { s with cmdq := [commandByte c x] }) =
        { selectLatch { s with cmdq := [commandByte c x] } with now := s.now + n } := by
      refine advance_of_not_due fun p hp => ?_
      cases hp
      exact Nat.add_lt_add_left hn _
    exact ⟨_, (execAll_then_adv hstart n).trans (congrArg _ hpass), hint, rfl⟩

/-- Settles O33: the CDB is the FIFO behind the message byte, and the Command-Complete at the deadline is that of an
`XFER` variant. -/
theorem selectWithTransferCompletes : Obligations.SelectWithTransferCompletes := by
  unfold Obligations.SelectWithTransferCompletes
  intro s x m cdb tgt hlines hdq hint hq hm hfifo hcdb htgt hp
  obtain rfl := targetOf_eq htgt
  have hrow : SelectRow x (.selAtnXfer x) 0x13#8 2 := selectRow_of_mem (by simp)
  have hl : 2 ≤ s.fifo.length := by
    have hpos := List.length_pos_iff.2 hcdb
    rw [hfifo, List.length_cons]
    omega
  have hstart := exec_select_of_populated hrow hq hm hl hp
  have hop : opcode (slot0 (selectCalled 0x13#8 x s)) = 0x13#8 := hrow.opcode_eq
  have hx : s.xferActive = false := (hdq hm).2
  have hirq := irq_of_int_eq_zero hlines hint
  have hdrq := drq_of_disconnected hlines hdq hm
  have hfired := (advance_to_commandComplete (s := selectCalled 0x13#8 x s) rfl (ccDelay_pos s.units s.ccf)).trans
    (onCommandComplete_of_select hop rfl hx hdrq)
  refine ⟨_, (execAll_then_adv hstart _).trans (congrArg _ hfired), ?_,
    rfl, rfl, rfl, rfl, rfl, rfl, rfl, rfl, rfl, ?_, ?_⟩
  · exact congrArg (· ||| causeBit .commandComplete) hint
  · have hbytes : cdbOf 0x13#8 s.fifo = cdb := by rw [hfifo]; rfl
    rw [← hbytes]
    rfl
  · have hflag : xferFlag 0x13#8 = true := rfl
    simp [irqRise, selectCalled, hirq, hflag]
end

section
/-! SUPPORT. The target commands: the start of the three that wait for a Command-Complete, and the end of a connection,
which `TDISCONNECT` shares with the Initiator's `RELEASE`, written out with its edges. -/

namespace Sys2Proof.Machine

/-! ## The three timed starts (R256 to R259) -/

/-- The three target commands that start with a Command-Complete, each with the FIFO bytes it drops. -/
def targetStarts : List (Byte × Nat) := [(0x20#8, 2), (0x21#8, 2), (0x22#8, 1)]

/-- In mode `T`, with its bytes in the FIFO, such a command written to an empty queue runs `target_start()`. -/
theorem exec_of_targetStart {i : Instr} {s : State} {v : Byte} {k : Nat} (hi : submitted i = some v)
    (hc : (opcode v, k) ∈ targetStarts) (hq : s.cmdq = []) (hm : s.mode = .target) (hl : k ≤ s.fifo.length) :
    exec i s = .next (targetStart k { s with cmdq := [v] }) := by
  have hwrite : exec i s = exec (.wrCmd v) s := (exec_of_submitted hi s).trans (exec_of_submitted rfl s).symm
  obtain ⟨hdef, hsel, hvalid⟩ : (opcode v, k) ∈ deferrable ∧ ¬ isSelect (opcode v) ∧ valid (opcode v) .target :=
    (by decide : ∀ p ∈ targetStarts, p ∈ deferrable ∧ ¬ isSelect p.1 ∧ valid p.1 .target) _ hc
  rw [hwrite, exec_wrCmd_of_deferrable hdef hq (hm ▸ hvalid) hl, startDeferrable, if_neg hsel, need_of_deferrable hdef]

/-! ## The end of a connection (R260, R273) -/

/-- R310, R311: a cause raised while no transfer is active: IRQ rises, and DRQ falls when it was high. -/
theorem updateLines_of_cause_of_transfer_off {s : State} {x : Cause} {i : BitVec 5} (hi : s.int = i ||| causeBit x)
    (hx : s.xferActive = false) :
    updateLines s = { s with irq := true, drq := false, edges := s.edges ++ irqRise s ++ drqFall s } := by
  rw [updateLines_of_cause hi, hx, List.append_assoc, drqFall]
  cases s.drq <;> rfl

theorem endConnection_eq (s : State) :
    endConnection s = { s with
      mode := .disconnected
      phase := .free
      xferActive := false
      xferRemaining := 0
      cstate := .completed
      int := s.int ||| causeBit .disconnect
      irq := true
      drq := false
      edges := s.edges ++ irqRise s ++ drqFall s } := by
  rw [endConnection, updateLines_of_cause_of_transfer_off rfl rfl]
  rfl

/-- Neither command needs a FIFO byte, so in its own mode its dispatch ends the connection. -/
theorem dispatch_of_connectionEnd {s : State}
    (h : opcode (slot0 s) = 0x23#8 ∧ s.mode = .target ∨ opcode (slot0 s) = 0x31#8 ∧ s.mode = .initiator) :
    dispatch s = endConnection s := by
  rw [dispatch_eq, dispatchWith]
  rcases h with ⟨hop, hm⟩ | ⟨hop, hm⟩
  · rw [hop, hm]
    rfl
  · rw [hop, hm]
    rfl

theorem exec_of_connectionEnd {i : Instr} {s : State} {v : Byte} (hi : submitted i = some v) (hq : s.cmdq = [])
    (h : opcode v = 0x23#8 ∧ s.mode = .target ∨ opcode v = 0x31#8 ∧ s.mode = .initiator) :
    exec i s = .next (endConnection { s with cmdq := [v] }) := by
  have himm : isImmediate (opcode v) = false := by
    rcases h with ⟨hop, -⟩ | ⟨hop, -⟩ <;> rw [hop] <;> rfl
  rw [exec_of_submitted hi, submit_of_empty hq himm, dispatch_of_connectionEnd (s := { s with cmdq := [v] }) h]

end Sys2Proof.Machine

open Sys2Proof Sys2Proof.Machine

/-- Settles O34: each of the three rows reaches `target_start()` with its own count. -/
theorem targetCommandStarts : Obligations.TargetCommandStarts := by
  unfold Obligations.TargetCommandStarts
  intro s x i c k hmem hq hm hl
  have hstart : exec i s = .next (targetStart k { s with cmdq := [commandByte c x] }) := by
    simp only [List.mem_cons, Prod.mk.injEq, List.not_mem_nil, or_false] at hmem
    rcases hmem with ⟨rfl, rfl, rfl⟩ | ⟨rfl, rfl, rfl⟩ | ⟨rfl, rfl, rfl⟩
    · exact exec_of_targetStart rfl (by simp [targetStarts]) hq hm hl
    · exact exec_of_targetStart rfl (by simp [targetStarts]) hq hm hl
    · exact exec_of_targetStart rfl (by simp [targetStarts]) hq hm hl
  rw [hstart, targetStart, schedule, ccDelay]

/-- Settles O35: both rows reach the one end of a connection, whose Disconnect cause raises IRQ before DRQ falls. -/
theorem connectionEnds : Obligations.ConnectionEnds := by
  unfold Obligations.ConnectionEnds
  intro s x i c m hmem _ hq hm
  have hend : exec i s = .next (endConnection { s with cmdq := [commandByte c x] }) := by
    simp only [List.mem_cons, Prod.mk.injEq, List.not_mem_nil, or_false] at hmem
    rcases hmem with ⟨rfl, rfl, rfl⟩ | ⟨rfl, rfl, rfl⟩
    · exact exec_of_connectionEnd rfl hq (.inl ⟨opcode_commandByte_tDisconnect x, hm⟩)
    · exact exec_of_connectionEnd rfl hq (.inr ⟨opcode_commandByte_release x, hm⟩)
  rw [hend, endConnection_eq]
  rfl
end

section
/-! SUPPORT. The initiator commands: the start of `XFER`, with DRQ's edge where the pass-through is switched on and
the scheduled Command-Complete where it is not. -/

namespace Sys2Proof.Machine

/-! ## The lines of an armed transfer (R310, R311) -/

/-- Arming a transfer leaves an IRQ line that agrees with the causes alone, so only DRQ can rise. -/
theorem updateLines_of_transfer_on {s : State} (hirq : s.irq = (s.int != 0#5)) (hx : s.xferActive = true) :
    updateLines s = { s with drq := true, edges := s.edges ++ drqRise s } := by
  have hedges : lineEdges s = drqRise s := by
    rw [lineEdges, drqRise, if_pos hirq.symm, hx, List.nil_append]
    cases s.drq <;> rfl
  rw [updateLines, hedges, ← hirq, hx]

/-! ## The two starts of `XFER` (R271, R272) -/

theorem doXfer_of_owed {s : State} (hirq : s.irq = (s.int != 0#5)) (hp : s.phase = .data) (hr : 0 < s.xferRemaining) :
    doXfer s = { s with cstate := .executing, xferActive := true, drq := true, edges := s.edges ++ drqRise s } := by
  have harmed := updateLines_of_transfer_on (s := { s with cstate := .executing, xferActive := true }) hirq rfl
  rw [doXfer, if_pos ⟨hp, hr⟩, harmed]
  rfl

theorem doXfer_of_none_owed {s : State} (h : s.phase ≠ .data ∨ s.xferRemaining = 0) :
    doXfer s = { s with cstate := .executing, pending := some ⟨.cc, s.now + ccDelay s.units s.ccf⟩ } := by
  have hnot : ¬(s.phase = .data ∧ 0 < s.xferRemaining) := by
    rintro ⟨hp, hr⟩
    exact h.elim (absurd hp) hr.ne'
  rw [doXfer, if_neg hnot, schedule]

/-- R105, R108: `XFER` is valid in mode `I` and needs no FIFO byte, so its dispatch runs it at once. -/
theorem dispatch_of_xfer {s : State} (hop : opcode (slot0 s) = 0x30#8) (hm : s.mode = .initiator) :
    dispatch s = doXfer s := by
  rw [dispatch_eq, dispatchWith, hop, hm]
  rfl

theorem exec_xfer_of_initiator {s : State} (x : Bool) (hq : s.cmdq = []) (hm : s.mode = .initiator) :
    exec (.xfer x) s = .next (doXfer { s with cmdq := [commandByte 0x30#8 x] }) := by
  have hop := opcode_commandByte_xfer x
  have himm : isImmediate (opcode (commandByte 0x30#8 x)) = false := hop.symm ▸ rfl
  rw [exec_of_submitted rfl, submit_of_empty hq himm,
    dispatch_of_xfer (s := { s with cmdq := [commandByte 0x30#8 x] }) hop hm]

end Sys2Proof.Machine

open Sys2Proof Sys2Proof.Machine

/-- Settles O36: the row reaches `do_XFER()`, whose one test separates the two clauses. -/
theorem xferStarts : Obligations.XferStarts := by
  unfold Obligations.XferStarts
  intro s x hlines hq hm
  rw [exec_xfer_of_initiator x hq hm]
  refine ⟨fun hp hr => ?_, fun hnone => ?_⟩
  · rw [doXfer_of_owed (s := { s with cmdq := [commandByte 0x30#8 x] }) hlines.1 hp hr]
    rfl
  · rw [doXfer_of_none_owed (s := { s with cmdq := [commandByte 0x30#8 x] }) hnone, ccDelay]
end

section
/-! SUPPORT. The timer: the order of the delays, the firing of a due completion and what each completion leaves, and
the time advance in closed form. -/

namespace Sys2Proof.Machine

/-! ## The delays (R288 to R291) -/

/-- R291 (b): the Command-Complete has the smaller unit and no further factor. -/
theorem ccDelay_lt_selDelay (u : DelayUnits) (t c : Byte) : ccDelay u c < selDelay u t c :=
  calc ccDelay u c < u.selUnit * ccfEff c := Nat.mul_lt_mul_of_pos_right u.ccUnit_lt (ccfEff_pos c)
    _ ≤ selDelay u t c := Nat.le_mul_of_pos_right _ t.toNat.succ_pos

theorem selDelay_lt_selDelay (u : DelayUnits) (c : Byte) {t t' : Byte} (h : t < t') :
    selDelay u t c < selDelay u t' c :=
  Nat.mul_lt_mul_of_pos_left (Nat.succ_lt_succ (BitVec.lt_def.1 h))
    (Nat.mul_pos (u.ccUnit_pos.trans u.ccUnit_lt) (ccfEff_pos c))

/-! ## The firing of a due completion (R292) -/

section firing
variable {s : State} {d : Nat}

theorem fire_of_sel (hp : s.pending = some ⟨.sel, d⟩) : fire s = onSelectTimeout (cancel s) := by
  rw [fire, hp]

theorem fire_of_cc (hp : s.pending = some ⟨.cc, d⟩) : fire s = onCommandComplete (cancel s) := by
  rw [fire, hp]

theorem pendingKind_and_due {k : CompletionKind} (hp : s.pending = some ⟨k, d⟩) (hd : d ≤ s.now) :
    pendingKind k s = true ∧ due s = true :=
  ⟨by simp [pendingKind, hp], (due_of_some hp).trans (decide_eq_true hd)⟩

theorem exec_fireSel_of_due (hp : s.pending = some ⟨.sel, d⟩) (hd : d ≤ s.now) : exec .fireSel s = .next (fire s) :=
  congrArg Host.Outcome.next (if_pos (pendingKind_and_due hp hd))

theorem exec_fireCc_of_due (hp : s.pending = some ⟨.cc, d⟩) (hd : d ≤ s.now) : exec .fireCc s = .next (fire s) :=
  congrArg Host.Outcome.next (if_pos (pendingKind_and_due hp hd))

end firing

/-! ## The Command-Complete of a command that is no select (R296) -/

/-- The phase moves by `cc_other` and the cause raises IRQ; the transfer is not touched, so DRQ has no edge. -/
theorem onCommandComplete_of_other {s : State} (hc : isSelect (opcode (slot0 s)) = false)
    (hd : s.drq = s.xferActive) :
    onCommandComplete s = { s with
      int := s.int ||| causeBit .commandComplete
      phase := ccOtherPhase (opcode (slot0 s)) s.phase
      cstate := .completed
      irq := true
      edges := s.edges ++ irqRise s } := by
  rw [onCommandComplete_eq, hc, if_neg Bool.false_ne_true, updateLines_of_cause rfl]
  simp [hd, irqRise]

/-! ## The time advance in closed form (R297) -/

theorem advanceAtOnce_of_none {s : State} (hp : s.pending = none) (n : Nat) :
    advanceAtOnce n s = { s with now := s.now + n } := by
  rw [advanceAtOnce, hp]

section pending
variable {s : State} {p : Pending} (hp : s.pending = some p)
include hp

theorem advanceAtOnce_of_reached {n : Nat} (h : 0 < n ∧ p.deadline ≤ s.now + n) :
    advanceAtOnce n s = { fire { s with now := max p.deadline (s.now + 1) } with now := s.now + n } := by
  rw [advanceAtOnce, hp]
  exact if_pos h

theorem advanceAtOnce_of_not_reached {n : Nat} (h : ¬(0 < n ∧ p.deadline ≤ s.now + n)) :
    advanceAtOnce n s = { s with now := s.now + n } := by
  rw [advanceAtOnce, hp]
  exact if_neg h

end pending

/-- A handler schedules nothing, so after a firing time only passes. -/
theorem advance_fire (n : Nat) (s : State) : advance n (fire s) = { fire s with now := s.now + n } := by
  rw [advance_of_none (fire_pending s), fire_now]

/-- A deadline ahead is met in its own cycle, and the cycles behind it only pass. -/
theorem advance_past_deadline {s : State} {p : Pending} {d : Nat} (hp : s.pending = some p)
    (hd : p.deadline = s.now + d) (hpos : 0 < d) (n : Nat) :
    advance (d + n) s = { fire { s with now := s.now + d } with now := s.now + d + n } := by
  rw [advance_add, advance_to_deadline hp hd hpos, advance_fire]

/-- A deadline in the past is met in the first cycle. -/
theorem advance_of_overdue {s : State} {p : Pending} (hp : s.pending = some p) (hd : p.deadline ≤ s.now) (n : Nat) :
    advance (n + 1) s = { fire { s with now := s.now + 1 } with now := s.now + 1 + n } := by
  have hdue : due (tick s) = true := (due_of_some (s := tick s) hp).trans (decide_eq_true (Nat.le_succ_of_le hd))
  calc advance (n + 1) s = advance n (fire (tick s)) := congrArg (advance n) (if_pos hdue)
    _ = { fire { s with now := s.now + 1 } with now := s.now + 1 + n } := advance_fire n (tick s)

theorem advance_eq_advanceAtOnce (n : Nat) (s : State) : advance n s = advanceAtOnce n s := by
  cases hp : s.pending with
  | none => rw [advance_of_none hp, advanceAtOnce_of_none hp]
  | some p =>
    by_cases h : 0 < n ∧ p.deadline ≤ s.now + n
    · rw [advanceAtOnce_of_reached hp h]
      obtain ⟨hpos, hreach⟩ := h
      by_cases hahead : s.now < p.deadline
      · obtain ⟨d, hd⟩ := Nat.exists_eq_add_of_lt hahead
        obtain ⟨r, rfl⟩ : ∃ r, n = d + 1 + r := Nat.exists_eq_add_of_le (by omega)
        rw [advance_past_deadline hp hd d.succ_pos, max_eq_left hahead, hd, Nat.add_assoc _ (d + 1)]
        rfl
      · obtain ⟨m, rfl⟩ := Nat.exists_eq_add_one.2 hpos
        rw [advance_of_overdue hp (Nat.not_lt.1 hahead), max_eq_right (by omega), Nat.add_right_comm, Nat.add_assoc]
    · rw [advanceAtOnce_of_not_reached hp h]
      rcases Nat.eq_zero_or_pos n with rfl | hpos
      · rfl
      · refine advance_of_not_due fun q hq => ?_
        cases hp.symm.trans hq
        exact Nat.lt_of_not_le fun hle => h ⟨hpos, hle⟩

end Sys2Proof.Machine

open Sys2Proof Sys2Proof.Machine

/-- Settles O40: the order of the delays is that of their units, scaled by factors that are at least 1. -/
theorem delaysOrdered : Obligations.DelaysOrdered := by
  unfold Obligations.DelaysOrdered
  exact ⟨⟨rfl, fun _ hc => if_neg hc⟩, fun u t c =>
    ⟨rfl, rfl, ccDelay_pos u c, selDelay_pos u t c, ccDelay_lt_selDelay u t c, fun _ => selDelay_lt_selDelay u c⟩⟩

/-- Settles O41: the due completion reaches the handler, whose edges are IRQ's before DRQ's. -/
theorem selectTimeoutFires : Obligations.SelectTimeoutFires := by
  unfold Obligations.SelectTimeoutFires
  intro s d _ hp hd
  rw [exec_fireSel_of_due hp hd, fire_of_sel hp, onSelectTimeout_eq]
  rfl

/-- Settles O42: both clauses are the one completion of a select, told apart by its transfer flag. -/
theorem selectCompleteFires : Obligations.SelectCompleteFires := by
  unfold Obligations.SelectCompleteFires
  intro s d v rest hlines hx hp hd hq
  have hop : opcode (slot0 (cancel s)) = opcode v := congrArg opcode (slot0_cons (s := cancel s) hq)
  have hdrq : s.drq = false := hlines.2.trans hx
  have hfired (hc : isSelect (opcode v) = true) := onCommandComplete_of_select (s := cancel s) hop hc hx hdrq
  rw [exec_fireCc_of_due hp hd, fire_of_cc hp]
  refine ⟨fun hv => ?_, fun hv => ?_⟩
  · obtain ⟨hc, hflag⟩ : isSelect (opcode v) = true ∧ xferFlag (opcode v) = true :=
      (by decide : ∀ c ∈ [0x11#8, 0x13#8], isSelect c = true ∧ xferFlag c = true) _ hv
    rw [hfired hc, hflag]
    simp only [Bool.true_and, decide_eq_true_eq]
    rfl
  · obtain ⟨hc, hflag⟩ : isSelect (opcode v) = true ∧ xferFlag (opcode v) = false :=
      (by decide : ∀ c ∈ [0x10#8, 0x12#8], isSelect c = true ∧ xferFlag c = false) _ hv
    rw [hfired hc, hflag]
    simp [causeBit, irqRise, cancel, hx, hdrq]

/-- Settles O43: none of the four is a select, and `cc_other` gives each its phase. -/
theorem otherCompleteFires : Obligations.OtherCompleteFires := by
  unfold Obligations.OtherCompleteFires
  intro s d v rest hlines hp hd hq hv
  have hop : opcode (slot0 (cancel s)) = opcode v := congrArg opcode (slot0_cons (s := cancel s) hq)
  have hc : isSelect (opcode v) = false :=
    (by decide : ∀ c ∈ [0x20#8, 0x21#8, 0x22#8, 0x30#8], isSelect c = false) _ hv
  have hphase : ccOtherPhase (opcode v) s.phase =
      if opcode v = 0x20#8 then .data
      else if opcode v = 0x21#8 then .status
      else if opcode v = 0x22#8 then .message
      else if s.phase = .status then .message
      else s.phase := by
    simp only [List.mem_cons, List.not_mem_nil, or_false] at hv
    rcases hv with h | h | h | h <;> simp [ccOtherPhase, h]
  rw [exec_fireCc_of_due hp hd, fire_of_cc hp,
    onCommandComplete_of_other (s := cancel s) (hop.symm ▸ hc) hlines.2, hop, ← hphase]
  rfl

/-- Settles O44, by the cases of the closed form: nothing pending, the deadline reached or not. -/
theorem advanceRefinesClosedForm : Obligations.AdvanceRefinesClosedForm := by
  unfold Obligations.AdvanceRefinesClosedForm
  exact fun s n => congrArg Host.Outcome.next (advance_eq_advanceAtOnce n s)

/-- Settles O45: the cycles of the second advance run from where the first one stopped. -/
theorem advanceSplits : Obligations.AdvanceSplits := by
  unfold Obligations.AdvanceSplits
  intro s a b
  refine ⟨?_, rfl⟩
  calc execAll [.adv a, .adv b] s = .next (advance b (advance a s)) := execAll_then_adv rfl b
    _ = exec (.adv (a + b)) s := congrArg Host.Outcome.next (advance_add a b s).symm

/-- Settles O46: short of the deadline no cycle is due, and at it the firing of the pending kind is the one that
`ADV` runs. -/
theorem deadlineIsMet : Obligations.DeadlineIsMet := by
  unfold Obligations.DeadlineIsMet
  intro s k d hp hahead
  refine ⟨fun n hn => ?_, fun n => ?_⟩
  · refine congrArg Host.Outcome.next (advance_of_not_due fun q hq => ?_)
    cases hp.symm.trans hq
    exact hn
  · have hnow : s.now + (d - s.now) = d := Nat.add_sub_of_le hahead.le
    have hfire : exec (if k = .sel then .fireSel else .fireCc) { s with now := d } =
        .next (fire { s with now := d }) := by
      cases k with
      | sel => exact exec_fireSel_of_due (s := { s with now := d }) hp le_rfl
      | cc => exact exec_fireCc_of_due (s := { s with now := d }) hp le_rfl
    have hadv := advance_past_deadline hp hnow.symm (Nat.sub_pos_of_lt hahead) n
    rw [hnow] at hadv
    rw [hfire]
    exact congrArg Host.Outcome.next hadv
end

section
/-! SUPPORT. The whole-machine rules of the trace, of Target mode and of the two error flags, and the resets done
twice. -/

namespace Sys2Proof.Machine

open Host (Outcome)

/-! ## One step -/

/-- A step that answers a next state waits with an empty inbox, or performs an operation on the state without its
stimulus. -/
theorem step_cases {s t : State} (h : step s = .next t) :
    t = s ∨ ∃ i rest, exec i { s with inbox := rest } = .next t := by
  unfold step at h
  split at h
  next => exact .inl (Outcome.next.inj h).symm
  next p rest _ =>
    split at h
    next i _ => exact .inr ⟨i, rest, h⟩
    next => cases h

/-! ## The trace (R311) -/

/-- A trace is followed to its end by following its first part and then, from the level reached, the rest. -/
theorem levelAfter_append (l : Line) (es fs : List Edge) (b : Bool) :
    levelAfter l b (es ++ fs) = (levelAfter l b es).bind fun b' => levelAfter l b' fs := by
  induction es generalizing b with
  | nil => rfl
  | cons e es ih =>
    simp only [List.cons_append, levelAfter, ih]
    split
    · split <;> rfl
    · rfl

/-- The edges of one line update take each line from its level to the new one (R309, R310). -/
theorem levelAfter_lineEdges (s : State) :
    levelAfter .irq s.irq (lineEdges s) = some (s.int != 0#5) ∧
    levelAfter .drq s.drq (lineEdges s) = some s.xferActive := by
  unfold lineEdges
  by_cases hirq : (s.int != 0#5) = s.irq
  · by_cases hdrq : s.xferActive = s.drq <;> simp [hirq, hdrq, levelAfter]
  · by_cases hdrq : s.xferActive = s.drq <;> simp [hirq, hdrq, levelAfter]

theorem time_of_mem_lineEdges {s : State} {e : Edge} (h : e ∈ lineEdges s) : e.time = s.now := by
  unfold lineEdges at h
  rcases List.mem_append.1 h with h | h <;> split at h
  · cases h
  · rw [List.mem_singleton.1 h]
  · cases h
  · rw [List.mem_singleton.1 h]

/-- The line update extends the trace by edges at the present that end at the new levels, whatever became of the
causes and of the transfer before it. -/
theorem traceSound_updateLines {s : State} (h : TraceSound s) : TraceSound (updateLines s) := by
  obtain ⟨hirq, hdrq, htimes, hpast⟩ := h
  obtain ⟨hirq', hdrq'⟩ := levelAfter_lineEdges s
  refine ⟨?_, ?_, ?_, ?_⟩
  · rw [updateLines_edges, levelAfter_append, hirq]
    exact hirq'
  · rw [updateLines_edges, levelAfter_append, hdrq]
    exact hdrq'
  · refine List.pairwise_append.2 ⟨htimes, ?_, fun a ha b hb => ?_⟩
    · exact List.pairwise_of_forall_mem_list fun a ha b hb =>
        ((time_of_mem_lineEdges ha).trans (time_of_mem_lineEdges hb).symm).le
    · exact (hpast a ha).trans (time_of_mem_lineEdges hb).ge
  · exact List.forall_mem_append.2 ⟨hpast, fun e he => (time_of_mem_lineEdges he).le⟩

theorem traceSound_endIfDone {s : State} (h : TraceSound s) : TraceSound (endIfDone s) := by
  rcases endIfDone_cases s with ⟨-, h'⟩ | ⟨-, -, h'⟩ | ⟨-, -, h'⟩ <;> rw [h']
  · exact h
  · exact traceSound_updateLines h
  · exact traceSound_updateLines h

theorem traceSound_tick {s : State} (h : TraceSound s) : TraceSound (tick s) := by
  obtain ⟨hirq, hdrq, htimes, hpast⟩ := h
  exact ⟨hirq, hdrq, htimes, fun e he => Nat.le_succ_of_le (hpast e he)⟩

/-- The lines and the trace change by the line update alone, and time only grows. -/
theorem traceSound_keeps : ControllerKeeps TraceSound where
  reject _ h := traceSound_updateLines h
  defer _ h := h
  flush _ h := h
  queue _ _ h := h
  idle _ h := h
  select c s h := by
    rw [selectStart_eq]
    split <;> exact h
  target _ _ h := h
  connection _ h := traceSound_updateLines h
  xfer s h := by
    unfold doXfer
    split
    · exact traceSound_updateLines h
    · exact h
  softReset _ h := traceSound_updateLines h
  busReset _ h := traceSound_updateLines h
  overrun _ h := h
  acknowledge _ h := traceSound_updateLines h
  returnByte _ _ _ h := h
  fifoDrop _ h := h
  fifoPush _ _ h := h
  dataRead _ h := traceSound_endIfDone h
  dataWrite _ _ h := traceSound_endIfDone h
  tick _ h := traceSound_tick h
  timeout _ h := traceSound_updateLines h
  complete s h := by
    rw [onCommandComplete_eq]
    split <;> exact traceSound_updateLines h

theorem exec_traceSound {i : Instr} {s t : State} (hs : TraceSound s) (h : exec i s = .next t) : TraceSound t := by
  refine exec_keeps traceSound_keeps i s t (fun _ => traceSound_updateLines hs) (fun u hu => ?_) h hs
  rw [plainStore_eq hu]
  exact hs

/-! ## Target mode (R332) -/

/-- Every mode written down by a part of the controller is `D` or `I`. -/
theorem notTarget_keeps : ControllerKeeps fun s => s.mode ≠ .target where
  reject _ h := h
  defer _ h := h
  flush _ h := h
  queue _ _ h := h
  idle _ h := h
  select c s h := by
    rw [selectStart_eq]
    split <;> exact h
  target _ _ h := h
  connection _ _ := nofun
  xfer s h := by
    unfold doXfer
    split <;> exact h
  softReset _ _ := nofun
  busReset _ _ := nofun
  overrun _ h := h
  acknowledge _ h := h
  returnByte _ _ _ h := h
  fifoDrop _ h := h
  fifoPush _ _ h := h
  dataRead s h := by
    rcases (endIfDone_hostFrame (callReadData s)).mode with hm | hm <;> simp [dataRead, hm, h]
  dataWrite v s h := by
    rcases (endIfDone_hostFrame (callWriteData v s)).mode with hm | hm <;> simp [dataWrite, hm, h]
  tick _ h := h
  timeout _ _ := nofun
  complete s h := by
    rw [onCommandComplete_eq]
    split
    · exact nofun
    · exact h

theorem step_notTarget {s t : State} (hs : s.mode ≠ .target) (h : step s = .next t) : t.mode ≠ .target := by
  rcases step_cases h with rfl | ⟨i, rest, hexec⟩
  · exact hs
  · refine exec_keeps notTarget_keeps i _ t (fun _ => nofun) (fun u hu => ?_) hexec hs
    rw [plainStore_eq hu]
    exact hs

/-- R105, R261: the target commands are valid in Target mode alone. -/
theorem valid_target_command {m : Mode} (hm : m ≠ .target) :
    ∀ c ∈ [0x20#8, 0x21#8, 0x22#8, 0x23#8], valid c m = false := by
  cases m with
  | target => exact absurd rfl hm
  | disconnected => decide
  | initiator => decide

/-! ## The error flags (R317, R318) -/

/-- Gross Error and Parity are those of `s`. -/
structure ErrorFlagsKept (s t : State) : Prop where
  ge : t.ge = s.ge
  pe : t.pe = s.pe

theorem DecoderFrame.errorFlagsKept {s t : State} (h : DecoderFrame s t) : ErrorFlagsKept s t := ⟨h.ge, h.pe⟩

theorem readIntStatus_errorFlagsKept (s : State) : ErrorFlagsKept s (readIntStatus s) := by
  rw [readIntStatus_eq]
  split
  · exact ⟨rfl, rfl⟩
  · exact { (popAndChain_frame (acknowledge s)).errorFlagsKept with }

theorem pushByte_errorFlagsKept (v : Byte) (s : State) : ErrorFlagsKept s (pushByte v s) := by
  unfold pushByte
  split
  · exact { (dispatch_frame (fifoPush v s)).errorFlagsKept with }
  · exact ⟨rfl, rfl⟩

theorem endIfDone_errorFlagsKept (s : State) : ErrorFlagsKept s (endIfDone s) := by
  rcases endIfDone_cases s with ⟨-, h⟩ | ⟨-, -, h⟩ | ⟨-, -, h⟩ <;> rw [h] <;> exact ⟨rfl, rfl⟩

theorem fire_errorFlagsKept (s : State) : ErrorFlagsKept s (fire s) := by
  rcases fire_cases s with ⟨-, h⟩ | ⟨_, -, h⟩ | ⟨_, -, h⟩ <;> rw [h]
  · exact ⟨rfl, rfl⟩
  · exact ⟨rfl, rfl⟩
  · rw [onCommandComplete_eq]
    split <;> exact ⟨rfl, rfl⟩

theorem advance_errorFlagsKept (n : Nat) (s : State) : ErrorFlagsKept s (advance n s) := by
  rcases advance_cases n s with h | ⟨k, -, -, h⟩ <;> rw [h]
  · exact ⟨rfl, rfl⟩
  · exact { fire_errorFlagsKept { s with now := k } with }

/-- What one operation can do to the error flags. -/
inductive ErrorFlagsMove (s : State) (i : Instr) (t : State) : Prop
  | cleared (hi : isAnyReset i = true) (hge : t.ge = false) (hpe : isFullReset i = false → t.pe = s.pe)
  | overrun {v : Byte} (hi : submitted i = some v) (hq : cmdqDepth ≤ s.cmdq.length) (hge : t.ge = true)
      (hpe : t.pe = s.pe)
  | forced {b : Bool} (hi : i = .parity b) (hge : t.ge = s.ge)
  | kept (h : ErrorFlagsKept s t)

theorem errorFlagsMove_submit {i : Instr} {v : Byte} (hi : submitted i = some v) (s : State) :
    ErrorFlagsMove s i (submit v s) := by
  rcases submit_cases v s with ⟨hv, h⟩ | ⟨hv, h⟩ | ⟨hv, h⟩ | ⟨-, ⟨hq, h⟩ | ⟨-, h⟩ | ⟨-, -, h⟩⟩ <;> rw [h]
  · exact .cleared (by simp [isAnyReset, hi, hv, isImmediate]) rfl fun _ => rfl
  · exact .cleared (by simp [isAnyReset, hi, hv, isImmediate]) rfl fun hf => by simp [isFullReset, hi, hv] at hf
  · exact .cleared (by simp [isAnyReset, hi, hv, isImmediate]) rfl fun _ => rfl
  · exact .overrun hi hq rfl rfl
  · exact .kept { (dispatch_frame { s with cmdq := [v] }).errorFlagsKept with }
  · exact .kept ⟨rfl, rfl⟩

theorem errorFlagsMove_store {i : Instr} {s t : State} (h : plainStore s i = some t) : ErrorFlagsMove s i t := by
  cases i <;> cases h
  case parity b => exact .forced rfl rfl
  all_goals exact .kept ⟨rfl, rfl⟩

theorem Effect.errorFlagsMove {i : Instr} {s t : State} (h : Effect s i t) : ErrorFlagsMove s i t := by
  cases h with
  | command hi => exact errorFlagsMove_submit hi s
  | store hst => exact errorFlagsMove_store hst
  | view _ _ _ => exact .kept ⟨rfl, rfl⟩
  | pop _ => exact .kept ⟨rfl, rfl⟩
  | readDevice _ => exact .kept { endIfDone_errorFlagsKept (callReadData s) with }
  | acknowledge => exact .kept { readIntStatus_errorFlagsKept s with }
  | push v _ => exact .kept (pushByte_errorFlagsKept v s)
  | writeDevice v _ => exact .kept { endIfDone_errorFlagsKept (callWriteData v s) with }
  | hardReset => exact .cleared rfl rfl fun hf => by cases hf
  | advance n => exact .kept (advance_errorFlagsKept n s)
  | notDue _ => exact .kept ⟨rfl, rfl⟩
  | timeout _ _ => exact .kept (fire_errorFlagsKept s)
  | complete _ _ => exact .kept (fire_errorFlagsKept s)

/-! ## The resets done twice (R352) -/

theorem exec_reset (x : Bool) (s : State) : exec (.reset x) s = .next (doReset s) := by
  rw [exec_of_submitted rfl, submit_of_reset (opcode_commandByte_zero x)]

theorem exec_busReset (x : Bool) (s : State) : exec (.busReset x) s = .next (doBusReset s) := by
  rw [exec_of_submitted rfl, submit_of_busReset (opcode_commandByte_busReset x)]

theorem exec_devReset (x : Bool) (s : State) : exec (.devReset x) s = .next (doDevReset s) := by
  rw [exec_of_submitted rfl, submit_of_devReset (opcode_commandByte_devReset x)]

theorem exec_hreset (s : State) : exec .hreset s = .next (doDevReset s) := rfl

/-- A reset is idempotent with its line update if it changes nothing on the state it leaves: the lines agree there. -/
theorem updateLines_reset_twice {f : State → State} {s : State} (h : f (updateLines (f s)) = updateLines (f s)) :
    updateLines (f (updateLines (f s))) = updateLines (f s) := by
  rw [h, updateLines_eq_self (linesAgree_updateLines (f s))]

theorem doReset_doReset (s : State) : doReset (doReset s) = doReset s := updateLines_reset_twice rfl

theorem doDevReset_doDevReset (s : State) : doDevReset (doDevReset s) = doDevReset s := updateLines_reset_twice rfl

theorem setCause_of_set {x : Cause} {s : State} (h : s.int ||| causeBit x = s.int) : setCause x s = s := by
  rw [setCause, h]

/-- The Reset cause is sticky, so the second bus reset raises what is raised already (R306). -/
theorem doBusReset_doBusReset (s : State) : doBusReset (doBusReset s) = doBusReset s := by
  refine updateLines_reset_twice (f := fun s => setCause .reset (softReset s)) (setCause_of_set ?_)
  exact (BitVec.or_assoc ..).trans (congrArg _ (BitVec.or_self ..))

theorem cleared_doReset (s : State) : Cleared (doReset s) := ⟨rfl, rfl, rfl, rfl, rfl, rfl, rfl, rfl⟩

theorem cleared_doBusReset (s : State) : Cleared (doBusReset s) := ⟨rfl, rfl, rfl, rfl, rfl, rfl, rfl, rfl⟩

theorem cleared_doDevReset (s : State) : Cleared (doDevReset s) := ⟨rfl, rfl, rfl, rfl, rfl, rfl, rfl, rfl⟩

/-- R352: a cleared command path meets every invariant of R53 that the FIFO and the lines leave open. -/
theorem Cleared.stateSound {s : State} (h : Cleared s) (hf : FifoFits s) (hl : LinesAgree s) : StateSound s := by
  obtain ⟨hsound, -⟩ := h.machineInv hf hl
  exact hsound

end Sys2Proof.Machine

open Sys2Proof Sys2Proof.Machine

/-- Settles O51: the line update is the one source of edges, and what it adds leads from the lines' old levels to
their new ones at the present time. -/
theorem traceKeptByStep : Obligations.TraceKeptByStep := by
  unfold Obligations.TraceKeptByStep
  intro s t hs hstep
  rcases step_cases hstep with rfl | ⟨i, rest, hexec⟩
  · exact hs
  · exact exec_traceSound (s := { s with inbox := rest }) hs hexec

/-- Settles O52: being outside Target mode is kept by every step, so by every run from power-on, which begins in
mode `D`. -/
theorem targetModeNeverEntered : Obligations.TargetModeNeverEntered := by
  unfold Obligations.TargetModeNeverEntered
  refine ⟨fun s t hstep ht => ?_, fun e n t hrun => ?_, fun m c hc hm => valid_target_command hm c hc⟩
  · by_contra hs
    exact step_notTarget hs hstep ht
  · have hpower : (powerOn e).mode ≠ .target := nofun
    exact run_keeps Sys2Proof.core (fun _ _ => step_notTarget) n _ t hpower hrun

/-- Settles O55, by what one operation can do to the two flags. -/
theorem errorFlagsSticky : Obligations.ErrorFlagsSticky := by
  unfold Obligations.ErrorFlagsSticky
  intro i s t hexec
  cases (effect_of_exec hexec).errorFlagsMove with
  | cleared hi hge hpe => exact ⟨fun _ _ => hi, fun _ ht => by simp [hge] at ht, fun _ => hpe⟩
  | overrun hi hq hge hpe => exact ⟨fun _ ht => by simp [hge] at ht, fun _ _ => ⟨⟨_, hi⟩, hq⟩, fun _ _ => hpe⟩
  | forced hi hge =>
    exact ⟨fun hs ht => by simp [hge, hs] at ht, fun hs ht => by simp [hge, hs] at ht, fun hb => absurd hi (hb _)⟩
  | kept h =>
    exact ⟨fun hs ht => by simp [h.ge, hs] at ht, fun hs ht => by simp [h.ge, hs] at ht, fun _ _ => h.pe⟩

/-- Settles O47: the parity force is one of the plain stores, and what it stores is its operand. -/
theorem parityForced : Obligations.ParityForced := by
  unfold Obligations.ParityForced
  exact fun _ _ => exec_of_plainStore rfl

/-- Settles O29: each reset clears the command path and leaves lines that agree, and on such a state it finds nothing
to change. -/
theorem resetsTotalAndIdempotent : Obligations.ResetsTotalAndIdempotent := by
  unfold Obligations.ResetsTotalAndIdempotent
  intro s x i hi
  simp only [List.mem_cons, List.not_mem_nil, or_false] at hi
  rcases hi with rfl | rfl | rfl | rfl
  · exact ⟨doReset s, exec_reset x s, by rw [exec_reset, doReset_doReset], nofun,
      fun hf => (cleared_doReset s).stateSound hf (linesAgree_updateLines _)⟩
  · exact ⟨doBusReset s, exec_busReset x s, by rw [exec_busReset, doBusReset_doBusReset], nofun,
      fun hf => (cleared_doBusReset s).stateSound hf (linesAgree_updateLines _)⟩
  · exact ⟨doDevReset s, exec_devReset x s, by rw [exec_devReset, doDevReset_doDevReset], nofun,
      fun _ => (cleared_doDevReset s).stateSound (Nat.zero_le _) (linesAgree_updateLines _)⟩
  · exact ⟨doDevReset s, exec_hreset s, by rw [exec_hreset, doDevReset_doDevReset],
      fun _ => by rw [exec_devReset, doDevReset_doDevReset],
      fun _ => (cleared_doDevReset s).stateSound (Nat.zero_le _) (linesAgree_updateLines _)⟩
end
